-- ==== Sys2Proof/Word.lean ====
section
/-! DEFINITION. The word types of the BAB-VWE block: every datum and memory element is one 64-bit word (00_scope.md R10, R11,
R13), and the host port names words by 32-bit word addresses (20_memory.md R61, R62). Bit i of a word has weight 2^i (R10). -/

namespace Sys2Proof

/-- A 64-bit mask or word: a frame, a diff frame, an output word, a command word, a register value (R10). -/
abbrev Word := BitVec 64

/-- A 32-bit word address of the host port (R61). -/
abbrev Addr := BitVec 32

/-- A pixel, which is a bit index of a frame mask (30_encoding.md R96). -/
abbrev Pixel := Fin 64

end Sys2Proof
end

