-- ==== Sys2Proof/Config.lean ====
section
/-! DEFINITION. What is fixed about a block: the constants of 00_scope.md R7, the parameters of R8 with the spec's defaults,
and the free values, which the spec leaves open. A free value has no body: no proof can see which value it is. -/

namespace Sys2Proof.Config

/-- PIXELS: pixels per frame (R7). -/
abbrev pixels : Nat := 64
/-- MIN_WS: base of the 3-bit word-size field (R7, R9). -/
abbrev minWs : Nat := 4
/-- FIELD_BITS: width of the word-size field (R7, R9). -/
abbrev fieldBits : Nat := 3
/-- B_OK_LO: least legal serialized word size, which is MIN_WS (R7). -/
abbrev bOkLo : Nat := minWs
/-- B_OK_HI: greatest legal serialized word size, `MIN_WS + 2^FIELD_BITS - 1` (R7). -/
abbrev bOkHi : Nat := minWs + 2 ^ fieldBits - 1
/-- M2_BLO: least word size Method 2 searches (R7). -/
abbrev m2Lo : Nat := 2
/-- M2_BHI: greatest word size Method 2 searches (R7). -/
abbrev m2Hi : Nat := 15
/-- M3_BLO: least word size Method 3 searches (R7). -/
abbrev m3Lo : Nat := 2
/-- M3_BHI: greatest word size Method 3 searches (R7). -/
abbrev m3Hi : Nat := 7
/-- CHUNK: bits per output word (R7). -/
abbrev chunk : Nat := 64
/-- The constant of the ID register, ASCII "BAVENC" and wire-format version 7 (10_state.md R21). -/
abbrev idWord : Word := 0x424156454E430007#64

/-- The parameters a block is built with (00_scope.md R8, 70_reset_and_hazards.md R272), and after them one of the model's own. -/
structure Params where
  /-- N_MAX, the capacity of the frame memory in frames. -/
  nMax : Nat
  /-- OUT_MAX, the capacity of the output-word memory. -/
  outMax : Nat
  /-- SPIRAL, the spiral traversal position of each bit index (44_spiral_rle.md R190). -/
  spiral : Vector (Fin 64) 64
  /-- M3_BOUNDS_CHECK, whether SPIRAL applies the [4, 11] check (44_spiral_rle.md R198). -/
  m3BoundsCheck : Bool
  /-- The model's own parameter, none of R8 (notes/assumptions/20.md): which of two rules a SERIALIZE or SPIRAL that fails with
  NFRAMES_RANGE follows. `false`: it writes nothing else (45_command_control.md R213). `true`: OUTCNT or M3CNT is 0 after it and
  the words are unspecified (70_reset_and_hazards.md R268, 93_implementation_defined.md U2, U3). -/
  nframesRangeZeroes : Bool
  deriving DecidableEq, Repr

/-- SPIRAL[i] for i = 0 .. 31 of the default table (44_spiral_rle.md R191). -/
def spiralLow : List (Fin 64) :=
  [21, 20, 19, 18, 17, 16, 15, 14] ++ [22, 43, 42, 41, 40, 39, 38, 13] ++
  [23, 44, 57, 56, 55, 54, 37, 12] ++ [24, 45, 58, 63, 62, 53, 36, 11]

/-- SPIRAL[i] for i = 32 .. 63 of the default table (44_spiral_rle.md R191). -/
def spiralHigh : List (Fin 64) :=
  [25, 46, 59, 60, 61, 52, 35, 10] ++ [26, 47, 48, 49, 50, 51, 34, 9] ++
  [27, 28, 29, 30, 31, 32, 33, 8] ++ [0, 1, 2, 3, 4, 5, 6, 7]

/-- The default SPIRAL table (44_spiral_rle.md R191). -/
def defaultSpiral : Vector (Fin 64) 64 := ⟨(spiralLow ++ spiralHigh).toArray, rfl⟩

/-- FREE VALUE (notes/assumptions/20.md): which of two rules that differ the default block follows after NFRAMES_RANGE,
45_command_control.md R213 or 70_reset_and_hazards.md R268. No ruling of the spec chooses between them. -/
opaque freeNframesRangeZeroes : Bool

/-- The spec's default parameters (00_scope.md R8). DESIGN CHOICE: the model's own parameter beside them is a free value
(notes/assumptions/20.md). -/
def defaultParams : Params where
  nMax := 8192
  outMax := 65536
  spiral := defaultSpiral
  m3BoundsCheck := false
  nframesRangeZeroes := freeNframesRangeZeroes

/-- FREE VALUE (notes/assumptions/3.md): the word an unspecified read gives, for the value of the model's draw counter and the
address read (10_state.md R41, R42, R48; 20_memory.md R66; 93_implementation_defined.md U1, U2, U3). -/
opaque freeWord : Nat → Addr → Word

/-- FREE VALUE (notes/assumptions/4.md): how many host moves the sequencer lets pass before it completes a command, for the
value of the draw counter at the start: finite and unspecified (45_command_control.md R211, 70_reset_and_hazards.md R273). -/
opaque freeLatency : Nat → Nat

end Sys2Proof.Config
end

