-- ==== Sys2Proof/Syntax.lean ====
section
/-! DEFINITION. The instructions of the block: the five commands a host writes to CMD (30_encoding.md R90, R91), one
constructor per row of spec/opcode_table.json. -/

namespace Sys2Proof

/-- The source select of SPIRAL, CMD[8] (30_encoding.md R92). -/
inductive Src where
  /-- SRC = 0: the frame sequence FRAME[0 .. NFRAMES - 1]. -/
  | frames
  /-- SRC = 1: the diff sequence DIFF[0 .. nd - 1]. -/
  | diffs
  deriving DecidableEq, Repr

/-- The commands (30_encoding.md R91). Only SPIRAL has an operand (R92). -/
inductive Instr where
  /-- NOP (45_command_control.md R214). -/
  | nop
  /-- CLEAR (45_command_control.md R215). -/
  | clear
  /-- SELECT (42_vw_encoder.md R148). -/
  | select
  /-- SERIALIZE (43_serializer.md R168). -/
  | serialize
  /-- SPIRAL (44_spiral_rle.md R197). -/
  | spiral (src : Src)
  deriving DecidableEq, Repr

end Sys2Proof
end

