-- ==== Sys2Proof/WellFormed.lean ====
section
/-! DEFINITION. The well-formedness checks: of an instruction, of a command word (30_encoding.md R93) and of the parameters a
block is built with (00_scope.md R8). -/

namespace Sys2Proof

/-- OP, CMD[7:0] (30_encoding.md R90, R92). -/
abbrev opField (w : Word) : BitVec 8 := w.extractLsb' 0 8

/-- SRC, CMD[8] (30_encoding.md R90, R92). -/
abbrev srcField (w : Word) : BitVec 1 := w.extractLsb' 8 1

/-- The reserved field CMD[63:9] (30_encoding.md R90). -/
abbrev reservedField (w : Word) : BitVec 55 := w.extractLsb' 9 55

/-- The opcode of the one command that uses SRC, 0x04 (30_encoding.md R91, R93). -/
abbrev spiralOp : BitVec 8 := 0x04#8

/-- A command word that 30_encoding.md R93 does not call illegal. -/
def legalWord (w : Word) : Bool :=
  decide (opField w < 0x05#8) && decide (reservedField w = 0#55) &&
    (decide (srcField w = 0#1) || decide (opField w = spiralOp))

/-- The operands an instruction carries are in range. The only operand, SRC, is an inductive type with exactly the two values
of its one-bit field (30_encoding.md R92), so no instruction is ill-formed. -/
def Instr.wellFormed : Instr → Bool
  | .nop => true
  | .clear => true
  | .select => true
  | .serialize => true
  | .spiral .frames => true
  | .spiral .diffs => true

namespace Config

/-- 2 ≤ N_MAX ≤ 65536 (00_scope.md R8). -/
def Params.nMaxOk (p : Params) : Bool := decide (2 ≤ p.nMax) && decide (p.nMax ≤ 65536)

/-- 2 ≤ OUT_MAX ≤ 1048576 (00_scope.md R8). -/
def Params.outMaxOk (p : Params) : Bool := decide (2 ≤ p.outMax) && decide (p.outMax ≤ 1048576)

/-- SPIRAL is a bijection of 0..63, which for a table of 64 positions below 64 is that no position occurs twice (R8). -/
def Params.spiralOk (p : Params) : Bool := decide p.spiral.toList.Nodup

/-- The parameters lie in the ranges of 00_scope.md R8. -/
def Params.wellFormed (p : Params) : Bool := p.nMaxOk && p.outMaxOk && p.spiralOk

end Config

end Sys2Proof
end

