-- ==== Sys2Proof/Decode.lean ====
section
/-! DEFINITION. The decoder of command words, total on all 64-bit words and refusing by name (30_encoding.md R90 to R93), and
after it the encoder (R98). -/

namespace Sys2Proof

/-- Why a command word is illegal (30_encoding.md R93). -/
inductive Illegal where
  /-- CMD[63:9] is not zero. -/
  | reservedBits
  /-- OP is 0x05 to 0xFF. -/
  | unassignedOp (op : BitVec 8)
  /-- SRC = 1 with an OP other than 0x04. -/
  | srcWithoutSpiral (op : BitVec 8)
  deriving DecidableEq, Repr

/-- The command an opcode selects when SRC and the reserved field allow it (30_encoding.md R91, R92). -/
def decodeOp (op : BitVec 8) (src : BitVec 1) : Except Illegal Instr :=
  if op = 0x04#8 then .ok (.spiral (if src = 1#1 then .diffs else .frames))
  else if 0x05#8 ≤ op then .error (.unassignedOp op)
  else if src = 1#1 then .error (.srcWithoutSpiral op)
  else if op = 0x00#8 then .ok .nop
  else if op = 0x01#8 then .ok .clear
  else if op = 0x02#8 then .ok .select
  else .ok .serialize

/-- The decoder: one 64-bit format and no other (30_encoding.md R90, R93, R94). -/
def decode (w : Word) : Except Illegal Instr :=
  if reservedField w = 0#55 then decodeOp (opField w) (srcField w) else .error .reservedBits

/-- What the decoder reads from a row's bits, numbered as spec/opcode_table.json numbers them. A command is one 64-bit word, so
the bits above `nbits` are zero and no instruction is longer. -/
def decodeTableWord (nbits w : Nat) : Option Instr :=
  if 64 < nbits then none else (decode (BitVec.ofNat 64 (w % 2 ^ nbits))).toOption

/-- The OP field of a command (30_encoding.md R91). -/
def Instr.op : Instr → BitVec 8
  | .nop => 0x00#8
  | .clear => 0x01#8
  | .select => 0x02#8
  | .serialize => 0x03#8
  | .spiral _ => 0x04#8

/-- The SRC field of a command (30_encoding.md R92). -/
def Instr.src : Instr → BitVec 1
  | .nop => 0#1
  | .clear => 0#1
  | .select => 0#1
  | .serialize => 0#1
  | .spiral .frames => 0#1
  | .spiral .diffs => 1#1

/-- The encoder: reserved field zero, SRC, OP (30_encoding.md R90, R98). -/
def encode (i : Instr) : Word := 0#55 ++ i.src ++ i.op

end Sys2Proof
end

