-- ==== Sys2Proof/Machine/State.lean ====
section
/-! DEFINITION. The state of the block and of its host, as plain data (10_state.md R20), the ways a step can stop, and the state
right after reset (70_reset_and_hazards.md R260, R261). -/

namespace Sys2Proof.Machine

open Sys2Proof Sys2Proof.Config

/-- The error codes of STATUS.ERRCODE that exist (60_exceptions.md R231); codes 6 to 15 are never raised. -/
inductive ErrCode where
  /-- 0 NONE. -/
  | none
  /-- 1 ILLEGAL_CMD. -/
  | illegalCmd
  /-- 2 NFRAMES_RANGE. -/
  | nframesRange
  /-- 3 B_RANGE. -/
  | bRange
  /-- 4 OUT_OVERFLOW. -/
  | outOverflow
  /-- 5 M3_B_RANGE. -/
  | m3BRange
  deriving DecidableEq, Repr

/-- The stored fields of STATUS (10_state.md R26). BUSY is not stored: it is 1 exactly when the command sequencer is RUNNING
(R43), and `State.busy` computes it from there. -/
structure Status where
  /-- Bit 1, W1C. -/
  done : Bool
  /-- Bit 2, W1C. -/
  err : Bool
  /-- Bits 7:4. -/
  errcode : ErrCode
  /-- Bits 15:8, CMD[7:0] of the last command started. -/
  lastop : BitVec 8
  deriving DecidableEq, Repr

/-- ERRINFO (10_state.md R28): INDEX in bits 31:0, B in bits 35:32. -/
structure ErrInfo where
  index : BitVec 32
  b : BitVec 4
  deriving DecidableEq, Repr

/-- TLSEL (10_state.md R33): PIX in bits 5:0, IDX in bits 63:32. -/
structure TlSel where
  pix : BitVec 6
  idx : BitVec 32
  deriving DecidableEq, Repr

/-- PIXRES[p] (10_state.md R36): B in bits 3:0, VALID in bit 8, DLEN in bits 63:32. -/
structure PixRes where
  b : BitVec 4
  valid : Bool
  dlen : BitVec 32
  deriving DecidableEq, Repr

/-- PIXLEN[p], its 16 lengths (10_state.md R37). -/
abbrev PixLen := Vector (BitVec 32) 16

/-- A memory of whole 64-bit words (00_scope.md R13, 20_memory.md R62): (index, word) pairs, indexes strictly rising. An index
that is not listed holds no value. -/
abbrev Memory := List (Nat × Word)

/-- The command sequencer (10_state.md R43). -/
inductive Sequencer where
  /-- No command runs. -/
  | idle
  /-- RUNNING(cmd). `left` is the model's internal progress: how many host moves may still pass before the completion. -/
  | running (cmd : Word) (left : Nat)
  deriving DecidableEq, Repr

/-- A move of the host (20_memory.md R60, R61; 30_encoding.md R97; 70_reset_and_hazards.md R260, R264). -/
inductive Move where
  /-- The host transaction Read(addr). -/
  | read (addr : Addr)
  /-- The host transaction Write(addr, data). -/
  | write (addr : Addr) (data : Word)
  /-- The pseudo-instruction `wait`: read STATUS until BUSY = 0. -/
  | wait
  /-- The host looks at the irq line until it is 1 (R71, R262). -/
  | waitIrq
  /-- The reset input is asserted. -/
  | assertRst
  /-- The reset input is released. -/
  | releaseRst
  deriving DecidableEq, Repr

/-- resp of a host transaction (20_memory.md R61). -/
inductive Resp where
  | okay
  | error
  deriving DecidableEq, Repr

/-- The answer of the host port to the last transaction (20_memory.md R61). -/
inductive Answer where
  /-- (data, resp) of a read. -/
  | read (data : Word) (resp : Resp)
  /-- resp of a write. -/
  | write (resp : Resp)
  deriving DecidableEq, Repr

/-- Everything the spec gives the block (10_state.md R20), and after it the host's side of the port. -/
structure State where
  /-- The parameters the block was built with (00_scope.md R8); no step changes them. -/
  params : Params
  /-- NFRAMES[31:0] (R24). -/
  nframes : BitVec 32
  /-- CMD, the last word stored (R25). -/
  cmd : Word
  /-- STATUS but for BUSY (R26). -/
  status : Status
  /-- IRQEN.DONE_IE (R27). -/
  doneIe : Bool
  /-- ERRINFO (R28). -/
  errinfo : ErrInfo
  /-- TOTBITS[31:0] (R29). -/
  totbits : BitVec 32
  /-- OUTCNT[31:0] (R30). -/
  outcnt : BitVec 32
  /-- M3CNT[31:0] (R31). -/
  m3cnt : BitVec 32
  /-- M3TOTAL[31:0] (R32). -/
  m3total : BitVec 32
  /-- TLSEL (R33). -/
  tlsel : TlSel
  /-- PIXRES[0..63] (R36). -/
  pixres : Vector PixRes 64
  /-- PIXLEN[0..63][0..15] (R37). -/
  pixlen : Vector PixLen 64
  /-- FRAME (R39). A word that is not listed has not been written since reset (R50). -/
  frame : Memory
  /-- OUT (R42). A word that is not listed is unspecified. -/
  out : Memory
  /-- M3RES (R41). A word that is not listed is unspecified. -/
  m3res : Memory
  /-- The command sequencer (R43). -/
  seq : Sequencer
  /-- The level of the reset input `rst` (20_memory.md R60). -/
  rst : Bool
  /-- The host's side: the moves it has still to make, the next one first. -/
  moves : List Move
  /-- The answer of the host port to the last transaction, if there was one since reset. -/
  port : Option Answer
  /-- The model's own field: how often the free values have been moved on (Config.freeWord, Config.freeLatency). -/
  draws : Nat
  deriving DecidableEq, Repr

/-- Why the machine stops with a fault. -/
inductive Fault where
  /-- UNINIT_FRAME: a command or a read-out reads FRAME[index], which the host has not written since reset. Raised by SELECT,
  SERIALIZE and SPIRAL and by host reads of FRAME, DIFF, TLDATA and TLLEN. Safe: the hardware reads whatever bits the memory
  holds (10_state.md R50, 70_reset_and_hazards.md R269). -/
  | uninitFrame (index : Nat)
  deriving DecidableEq, Repr

/-- Why the machine gives a step no meaning. -/
inductive Refusal where
  /-- The instruction has no meaning yet. No arm raises it. Safe. -/
  | notModelled (mnemonic : String)
  /-- A host transaction while `rst` is asserted, for which the spec defines no response. Raised by the host moves read, write
  and wait. Safe (70_reset_and_hazards.md R260, 93_implementation_defined.md U7). -/
  | transactionUnderReset
  deriving DecidableEq, Repr

/-- PIXRES[p] after reset and after CLEAR: 0 (10_state.md R36). -/
def PixRes.zero : PixRes := { b := 0, valid := false, dlen := 0 }

/-- The block right after reset (70_reset_and_hazards.md R260, R261), built with the default parameters of 00_scope.md R8; `rst`
is released, the host has no move to make and no transaction has been answered. -/
def State.reset : State where
  params := defaultParams
  nframes := 0
  cmd := 0
  status := { done := false, err := false, errcode := .none, lastop := 0 }
  doneIe := false
  errinfo := { index := 0, b := 0 }
  totbits := 0
  outcnt := 0
  m3cnt := 0
  m3total := 0
  tlsel := { pix := 0, idx := 0 }
  pixres := Vector.replicate 64 PixRes.zero
  pixlen := Vector.replicate 64 (Vector.replicate 16 0)
  frame := []
  out := []
  m3res := []
  seq := .idle
  rst := false
  moves := []
  port := none
  draws := 0

end Sys2Proof.Machine
end

