-- ==== Sys2Proof/Machine/Flags.lean ====
section
/-! DEFINITION. The flags of the block: STATUS and what a start, a completion, a failure and a W1C write do to it, the words in
which registers with fields read, and the irq line (10_state.md R26 to R49). -/

namespace Sys2Proof.Machine

open Sys2Proof Sys2Proof.Config

/-- STATUS.ERRCODE as its 4-bit code (60_exceptions.md R231). -/
def ErrCode.code : ErrCode → BitVec 4
  | .none => 0
  | .illegalCmd => 1
  | .nframesRange => 2
  | .bRange => 3
  | .outOverflow => 4
  | .m3BRange => 5

/-- STATUS.BUSY: 1 exactly when the sequencer is RUNNING (10_state.md R43). -/
def State.busy (s : State) : Bool :=
  match s.seq with
  | .idle => false
  | .running _ _ => true

/-- The STATUS fields at a command start (45_command_control.md R210). -/
def Status.started (w : Word) : Status :=
  { done := false, err := false, errcode := .none, lastop := w.extractLsb' 0 8 }

/-- The STATUS fields at a successful completion (45_command_control.md R211). -/
def Status.completed (t : Status) : Status := { t with done := true }

/-- The STATUS fields at a failed completion (45_command_control.md R211, 60_exceptions.md R235). -/
def Status.failed (t : Status) (code : ErrCode) : Status :=
  { t with done := true, err := true, errcode := code }

/-- The W1C write of STATUS: bit 1 clears DONE, bit 2 clears ERR and ERRCODE together (10_state.md R26). -/
def Status.w1c (t : Status) (d : Word) : Status where
  done := t.done && !d.getLsbD 1
  err := t.err && !d.getLsbD 2
  errcode := if d.getLsbD 2 then .none else t.errcode
  lastop := t.lastop

/-- The word STATUS reads as (10_state.md R26, R49). -/
def State.statusWord (s : State) : Word :=
  0#48 ++ s.status.lastop ++ s.status.errcode.code ++ 0#1 ++ BitVec.ofBool s.status.err ++ BitVec.ofBool s.status.done ++
    BitVec.ofBool s.busy

/-- The level output `irq = STATUS.DONE & IRQEN.DONE_IE` (10_state.md R47, 60_exceptions.md R237). -/
def State.irq (s : State) : Bool := s.status.done && s.doneIe

/-- The word IRQEN reads as (10_state.md R27). -/
def State.irqenWord (s : State) : Word := 0#63 ++ BitVec.ofBool s.doneIe

/-- The word PARAMS reads as (10_state.md R22). -/
def paramsWord (p : Params) : Word :=
  0#39 ++ BitVec.ofBool p.m3BoundsCheck ++ BitVec.ofNat 4 m3Hi ++ BitVec.ofNat 4 m3Lo ++ BitVec.ofNat 4 m2Hi ++
    BitVec.ofNat 4 m2Lo ++ BitVec.ofNat 4 fieldBits ++ BitVec.ofNat 4 minWs

/-- The word CAPS reads as (10_state.md R23). -/
def capsWord (p : Params) : Word := BitVec.ofNat 32 p.outMax ++ BitVec.ofNat 32 p.nMax

/-- A register whose bits 63:32 are reserved (10_state.md R24, R29 to R32, R37). -/
def lowWord (v : BitVec 32) : Word := 0#32 ++ v

/-- The word ERRINFO reads as (10_state.md R28). -/
def ErrInfo.word (e : ErrInfo) : Word := 0#28 ++ e.b ++ e.index

/-- The word TLSEL reads as (10_state.md R33). -/
def TlSel.word (t : TlSel) : Word := t.idx ++ 0#26 ++ t.pix

/-- What a host write of `d` stores in TLSEL (10_state.md R33, R49). -/
def TlSel.ofWord (d : Word) : TlSel := { pix := d.extractLsb' 0 6, idx := d.extractLsb' 32 32 }

/-- The pixel TLSEL.PIX selects (10_state.md R33, R34). -/
def TlSel.pixel (t : TlSel) : Pixel := ⟨t.pix.toNat, t.pix.isLt⟩

/-- The word PIXRES[p] reads as (10_state.md R36). -/
def PixRes.word (r : PixRes) : Word := r.dlen ++ 0#23 ++ BitVec.ofBool r.valid ++ 0#4 ++ r.b

/-- The word of an M3RES entry: B in bits 3:0, LEN in bits 47:32 (10_state.md R41, 44_spiral_rle.md R195). -/
def m3Word (b len : Nat) : Word := 0#16 ++ BitVec.ofNat 16 len ++ 0#28 ++ BitVec.ofNat 4 b

/-- The word a valid TLDATA reads as: VALUE in bits 31:0, VALID in bit 32 (10_state.md R34). -/
def tlDataWord (v : Nat) : Word := 0#31 ++ 1#1 ++ BitVec.ofNat 32 v

/-- The word SPIRAL[i] reads as (10_state.md R38). -/
def spiralWord (p : Params) (i : Fin 64) : Word := 0#58 ++ BitVec.ofNat 6 p.spiral[i].val

end Sys2Proof.Machine
end

