-- ==== Sys2Proof/Machine/Ops.lean ====
section
/-! DEFINITION. The operations every family shares: the memories of whole words, the completion of a command, raising an error
(the block's exception, 60_exceptions.md R230), and the block's reset. -/

namespace Sys2Proof.Machine

open Sys2Proof Sys2Proof.Config

/-- The outcome of a step of this machine. -/
abbrev Result := Host.Outcome State Fault Refusal

/-- The canonical form of a memory: indexes strictly rising. An unlisted index holds no value, so no entry can equal it. -/
abbrev Memory.wf (m : Memory) : Prop := m.Pairwise fun x y => x.1 < y.1

/-- Every listed index is below the capacity (20_memory.md R65). -/
abbrev Memory.below (cap : Nat) (m : Memory) : Prop := ∀ c ∈ m, c.1 < cap

/-- The word at an index, if one is held there (00_scope.md R13). -/
def Memory.read : Memory → Nat → Option Word
  | [], _ => none
  | (j, w) :: m, i => if i = j then some w else Memory.read m i

/-- Store a whole word at an index (00_scope.md R13). -/
def Memory.write : Memory → Nat → Word → Memory
  | [], i, w => [(i, w)]
  | (j, v) :: m, i, w =>
    if i < j then (i, w) :: (j, v) :: m
    else if i = j then (i, w) :: m
    else (j, v) :: Memory.write m i w

/-- Store a list of words at consecutive indexes from `i` up. -/
def Memory.writeFrom : Memory → Nat → List Word → Memory
  | m, _, [] => m
  | m, i, w :: ws => Memory.writeFrom (Memory.write m i w) (i + 1) ws

/-- The contents of a memory whose every word is unspecified: nothing is listed. -/
abbrev Memory.unspecified : Memory := []

/-- The words at `n` consecutive indexes from `i` up, or the first of them that holds no value. -/
def Memory.readFrom (m : Memory) : Nat → Nat → Except Nat (List Word)
  | _, 0 => .ok []
  | i, n + 1 =>
    match Memory.read m i with
    | none => .error i
    | some w =>
      match Memory.readFrom m (i + 1) n with
      | .error j => .error j
      | .ok ws => .ok (w :: ws)

/-- The vector of the values of `f`. It is not unfolded by unification; its law is `getElem_tabulate`. -/
@[irreducible] def tabulate {α : Type} {n : Nat} (f : Fin n → α) : Vector α n := Vector.ofFn f

/-! The updates of one field. -/

/-- NFRAMES <- v (10_state.md R24). -/
def State.withNframes (s : State) (v : BitVec 32) : State := { s with nframes := v }
/-- STATUS <- t, but for BUSY (10_state.md R26). -/
def State.withStatus (s : State) (t : Status) : State := { s with status := t }
/-- IRQEN.DONE_IE <- v (10_state.md R27). -/
def State.withDoneIe (s : State) (v : Bool) : State := { s with doneIe := v }
/-- TLSEL <- v (10_state.md R33). -/
def State.withTlsel (s : State) (v : TlSel) : State := { s with tlsel := v }
/-- FRAME <- m (10_state.md R39). -/
def State.withFrame (s : State) (m : Memory) : State := { s with frame := m }
/-- The sequencer's state (10_state.md R43). -/
def State.withSeq (s : State) (q : Sequencer) : State := { s with seq := q }
/-- The level of `rst` (20_memory.md R60). -/
def State.withRst (s : State) (v : Bool) : State := { s with rst := v }
/-- The host's moves still to make. -/
def State.withMoves (s : State) (ms : List Move) : State := { s with moves := ms }
/-- The port answers a transaction (20_memory.md R61). -/
def State.answer (s : State) (r : Answer) : State := { s with port := some r }
/-- The free values move on. -/
def State.draw (s : State) : State := { s with draws := s.draws + 1 }

/-- A successful completion (45_command_control.md R211): ERRINFO is 0, DONE is 1, the sequencer is IDLE. The words a reader may
see unspecified are drawn anew after it (20_memory.md R66). -/
def State.complete (s : State) : State :=
  { s with
    status := s.status.completed
    errinfo := { index := 0, b := 0 }
    seq := .idle
    draws := s.draws + 1 }

/-- TAKING AN ERROR: `raise Error(code, index, b)` (00_scope.md R14) and the completion it ends in (45_command_control.md R211,
60_exceptions.md R235). ERR, ERRCODE and ERRINFO are all that is saved, and there is nowhere to go to: the block has no program
counter, no mode and no vector. What undoes it is `Status.w1c`, a start or reset (60_exceptions.md R236). -/
def State.fail (s : State) (code : ErrCode) (index : BitVec 32) (b : BitVec 4) : State :=
  { s with
    status := s.status.failed code
    errinfo := { index := index, b := b }
    seq := .idle
    draws := s.draws + 1 }

/-- The failure of a started command whose word is illegal (45_command_control.md R212). -/
def illegalCommand (s : State) : State := s.fail .illegalCmd 0 0

/-- Command start (45_command_control.md R210). `left` is how many host moves may pass before the completion. -/
def State.start (s : State) (w : Word) (left : Nat) : State :=
  { s with cmd := w, status := Status.started w, seq := .running w left }

/-- Reset (70_reset_and_hazards.md R260): every piece of the block's state at its value after reset, a running command
abandoned. The parameters stay (R272), the host keeps its moves, and `rst` stays asserted until the host releases it. -/
def State.assertReset (s : State) : State :=
  { State.reset with params := s.params, rst := true, moves := s.moves, draws := s.draws + 1 }

end Sys2Proof.Machine
end

