-- ==== Sys2Proof/Machine/Control.lean ====
section
/-! DEFINITION. The two commands that only touch control state: NOP and CLEAR (45_command_control.md R214, R215). -/

namespace Sys2Proof.Machine

open Sys2Proof Sys2Proof.Config

/-- NOP (45_command_control.md R214). -/
def execNop (s : State) : Result := .next s.complete

/-- The result state CLEAR zeroes; the contents of OUT and M3RES stay (45_command_control.md R215). -/
def State.clearResults (s : State) : State :=
  { s with
    pixres := Vector.replicate 64 PixRes.zero
    pixlen := Vector.replicate 64 (Vector.replicate 16 0)
    totbits := 0
    outcnt := 0
    m3cnt := 0
    m3total := 0 }

/-- CLEAR (45_command_control.md R215). -/
def execClear (s : State) : Result := .next s.clearResults.complete

end Sys2Proof.Machine
end

