-- ==== Sys2Proof/Machine/DiffTimeline.lean ====
section
/-! DEFINITION. The DiffComputer and the PixelTimelineBuilder (41_diff_timeline.md), and the frame layout they rest on
(30_encoding.md R95, R96). -/

namespace Sys2Proof.Machine

open Sys2Proof Sys2Proof.Config

/-- The bit of a frame mask that holds the pixel at column x and row y: `63 - (y*8 + (7-x))` (30_encoding.md R95). -/
def bitIndex (x y : Fin 8) : Nat := 63 - (y.val * 8 + (7 - x.val))

/-- The mask of an 8 × 8 grid of lit pixels, `lit x y` (30_encoding.md R95). -/
def frameMask (lit : Fin 8 → Fin 8 → Bool) : Word :=
  (List.finRange 8).foldl (fun m y =>
    (List.finRange 8).foldl (fun m x => if lit x y then m ||| (1#64 <<< bitIndex x y) else m) m) 0

/-- The diff sequence of a frame sequence (41_diff_timeline.md R120). -/
def diffs : List Word → List Word
  | f :: g :: fs => (f ^^^ g) :: diffs (g :: fs)
  | [_] => []
  | [] => []

/-- The rest of a timeline whose current wait count is `count`: a diff that flips pixel p ends the element and starts the next
at 1, another diff extends it (41_diff_timeline.md R123). -/
def timelineFrom (p : Pixel) : List Word → Nat → List Nat
  | [], count => [count]
  | d :: ds, count => if d.getLsbD p.val then count :: timelineFrom p ds 1 else timelineFrom p ds (count + 1)

/-- TL(p) over the diff sequence `ds` (41_diff_timeline.md R123). -/
def timeline (ds : List Word) (p : Pixel) : List Nat := timelineFrom p ds 0

end Sys2Proof.Machine
end

