-- ==== Sys2Proof/Machine/Operands.lean ====
section
/-! DEFINITION. The operands of the commands: the frame sequence, with the frame-count check before it (45_command_control.md
R213, 41_diff_timeline.md R122), and SPIRAL's source select (30_encoding.md R92). -/

namespace Sys2Proof.Machine

open Sys2Proof Sys2Proof.Config

/-- NFRAMES > N_MAX (45_command_control.md R213). -/
def State.nframesTooMany (s : State) : Bool := decide (s.params.nMax < s.nframes.toNat)

/-- The frame sequence `F = [FRAME[0], ..., FRAME[NFRAMES - 1]]`, or the first of these words that the host has not written
since reset (41_diff_timeline.md R122, 70_reset_and_hazards.md R269). -/
def State.frames (s : State) : Except Nat (List Word) := s.frame.readFrom 0 s.nframes.toNat

/-- `check_nframes()` and then the frame sequence: what SELECT, SERIALIZE and SPIRAL do first. NFRAMES > N_MAX fails the
command (45_command_control.md R213) before any frame is read; an unwritten frame faults (10_state.md R50). `failed` is the state
with what the command writes in that failure. -/
def State.withFrames (s failed : State) (k : List Word → Result) : Result :=
  if s.nframesTooMany then .next (failed.fail .nframesRange s.nframes 0)
  else
    match s.frames with
    | .error i => .fault (.uninitFrame i)
    | .ok fs => k fs

/-- The mask sequence SRC selects: the frames or their diffs (30_encoding.md R92, 44_spiral_rle.md R197). -/
def selectMasks : Src → List Word → List Word
  | .frames, fs => fs
  | .diffs, fs => diffs fs

end Sys2Proof.Machine
end

