-- ==== Sys2Proof/Machine/VwEncoder.lean ====
section
/-! DEFINITION. The variable-width encoder, word-size selection and the SELECT command (42_vw_encoder.md). -/

namespace Sys2Proof.Machine

open Sys2Proof Sys2Proof.Config

/-- The code words of one value at word size b: an escape word 0 for each `2^b - 1` taken off while `v >= 2^b`, then the
terminal word. `fuel` bounds the loop, and v itself is enough of it (42_vw_encoder.md R140). -/
def valueWords (b : Nat) : Nat → Nat → List Nat
  | 0, v => [v]
  | fuel + 1, v => if 2 ^ b ≤ v then 0 :: valueWords b fuel (v - (2 ^ b - 1)) else [v]

/-- `vw_words(t, b)`: the code words in decode order (42_vw_encoder.md R140). -/
def vwWords (t : List Nat) (b : Nat) : List Nat := t.flatMap fun v => valueWords b v v

/-- `zext_b(v)` as a bit string, most significant bit leftmost (42_vw_encoder.md R140). -/
def bitString : Nat → Nat → List Bool
  | 0, _ => []
  | b + 1, v => v.testBit b :: bitString b v

/-- `vw_string(t, b)` in string order: each code word in turn is prepended (42_vw_encoder.md R140). -/
def vwString (t : List Nat) (b : Nat) : List Bool :=
  (vwWords t b).foldl (fun str w => bitString b w ++ str) []

/-- A bit string read as a binary number, its rightmost bit bit 0 (42_vw_encoder.md R142). -/
def stringValue (str : List Bool) : Nat := str.foldl (fun n x => 2 * n + x.toNat) 0

/-- `sum over k of W[k] << (b*k)`: the number whose bits `b*k + b - 1 : b*k` are word k (42_vw_encoder.md R142). -/
def packWords (b : Nat) : List Nat → Nat
  | [] => 0
  | w :: ws => w + (packWords b ws <<< b)

/-- `vw_len(t, b)`, the data bits only (42_vw_encoder.md R143). -/
def vwLen (t : List Nat) (b : Nat) : Nat := b * (vwWords t b).length

/-- The decoding rule the source states for the consumer: an all-zero word adds `2^b - 1` and continues, a nonzero word adds its
value and ends the element (42_vw_encoder.md R141). `acc` is what the current element has so far. DESIGN CHOICE: an element that
the end of the words leaves unfinished is dropped, where the spec is silent (notes/assumptions/19.md). -/
def vwDecodeFrom (b : Nat) : List Nat → Nat → List Nat
  | [], _ => []
  | w :: ws, acc => if w = 0 then vwDecodeFrom b ws (acc + (2 ^ b - 1)) else (acc + w) :: vwDecodeFrom b ws 0

/-- Decoding of a word sequence (42_vw_encoder.md R141). -/
def vwDecode (b : Nat) (ws : List Nat) : List Nat := vwDecodeFrom b ws 0

/-- The selection loop over b = lo .. hi ascending, in which a later b of equal length wins; the first b is taken as the best so
far (42_vw_encoder.md R146, 44_spiral_rle.md R194). -/
def selectBy (len : Nat → Nat) (lo hi : Nat) : Nat × Nat :=
  (List.range' (lo + 1) (hi - lo)).foldl (fun best b => if len b ≤ best.2 then (b, len b) else best) (lo, len lo)

/-- `select(t)`: (b, length) of Method 2 (42_vw_encoder.md R146). -/
def select (t : List Nat) : Nat × Nat := selectBy (vwLen t) m2Lo m2Hi

/-- PIXRES[p] of a timeline: B, VALID = 1, DLEN (42_vw_encoder.md R148). -/
def pixResOf (t : List Nat) : PixRes :=
  { b := BitVec.ofNat 4 (select t).1, valid := true, dlen := BitVec.ofNat 32 (select t).2 }

/-- PIXLEN[p] of a timeline: vw_len for b = 2..15, and 0 for b = 0 and 1 (10_state.md R37, 42_vw_encoder.md R148). -/
def pixLenOf (t : List Nat) : PixLen :=
  tabulate fun b : Fin 16 => if b.val < m2Lo then 0 else BitVec.ofNat 32 (vwLen t b.val)

/-- The writes of PIXRES and PIXLEN for all 64 pixels, which SELECT and SERIALIZE share (42_vw_encoder.md R148,
43_serializer.md R168). -/
def State.writePixels (s : State) (ds : List Word) : State :=
  { s with
    pixres := tabulate fun p => pixResOf (timeline ds p)
    pixlen := tabulate fun p => pixLenOf (timeline ds p) }

/-- SELECT (42_vw_encoder.md R148). Its NFRAMES_RANGE failure writes nothing. -/
def execSelect (s : State) : Result :=
  s.withFrames s fun fs => .next (s.writePixels (diffs fs)).complete

end Sys2Proof.Machine
end

