-- ==== Sys2Proof/Machine/Serializer.lean ====
section
/-! DEFINITION. The serializer, its sentinels and output words, and the SERIALIZE command (43_serializer.md). -/

namespace Sys2Proof.Machine

open Sys2Proof Sys2Proof.Config

/-- A word list with its last word, the terminal word of the last timeline element, replaced by the sentinel word 0
(43_serializer.md R163). -/
def withSentinel (ws : List Nat) : List Nat := ws.set (ws.length - 1) 0

/-- A pixel's block made of the code words `ws` at word size b, as (value, length): the 3-bit field `b - MIN_WS` in the low
bits, word k at `3 + b*k` (43_serializer.md R161, R163). -/
def blockOf (b : Nat) (ws : List Nat) : Nat × Nat :=
  ((b - minWs) ||| (packWords b ws <<< fieldBits), b * ws.length + fieldBits)

/-- The block of a timeline before the sentinel is applied (43_serializer.md R161). -/
def rawBlock (t : List Nat) : Nat × Nat := blockOf (select t).1 (vwWords t (select t).1)

/-- `block(p)` of the timeline of pixel p (43_serializer.md R163). -/
def block (t : List Nat) : Nat × Nat := blockOf (select t).1 (withSentinel (vwWords t (select t).1))

/-- The pixels in processing order, 63 down to 0 (43_serializer.md R160). -/
def pixelsDown : List Pixel := (List.finRange 64).reverse

/-- `assemble()`: each block in turn goes above the bits so far, giving (N, T) (43_serializer.md R164, R165). -/
def assemble (ds : List Word) : Nat × Nat :=
  pixelsDown.foldl (fun acc p =>
    (acc.1 ||| ((block (timeline ds p)).1 <<< acc.2), acc.2 + (block (timeline ds p)).2)) (0, 0)

/-- `K = ceil(T / 64)` (43_serializer.md R166). -/
def chunks (t : Nat) : Nat := (t + (chunk - 1)) / chunk

/-- The output words of (N, T): K chunks counted from the end, then the trailing zero word (43_serializer.md R166). -/
def outWords (n t : Nat) : List Word :=
  (List.range (chunks t)).map (fun i => BitVec.ofNat 64 (n >>> (chunk * i))) ++ [0]

/-- A word size outside the serializable range (43_serializer.md R162, R167). -/
def outOfRange (b : Nat) : Bool := decide (b < bOkLo) || decide (bOkHi < b)

/-- The bounds check: the first pixel in processing order whose selected b is out of range, with that b
(43_serializer.md R167). -/
def boundsViolation (ds : List Word) : Option (Pixel × Nat) :=
  (pixelsDown.find? fun p => outOfRange (select (timeline ds p)).1).map fun p => (p, (select (timeline ds p)).1)

/-- SERIALIZE on an empty diff sequence (43_serializer.md R169). -/
def State.serializeEmpty (s : State) : State :=
  { s with out := s.out.write 0 0, outcnt := 1, totbits := 0 }

/-- The failure actions of NFRAMES_RANGE in SERIALIZE. DESIGN CHOICE: the spec's rules differ, and a parameter chooses between
them: nothing is written (43_serializer.md R168, 45_command_control.md R213), or OUTCNT is 0 and OUT is unspecified
(70_reset_and_hazards.md R268, 93_implementation_defined.md U2). See notes/assumptions/20.md. -/
def State.serializeNframesRange (s : State) : State :=
  { s with
    outcnt := if s.params.nframesRangeZeroes then 0 else s.outcnt
    out := if s.params.nframesRangeZeroes then Memory.unspecified else s.out }

/-- The failure actions of B_RANGE: TOTBITS and OUTCNT are 0, OUT is unspecified (43_serializer.md R168). -/
def State.serializeBRange (s : State) : State :=
  { s with totbits := 0, outcnt := 0, out := Memory.unspecified }

/-- The failure actions of OUT_OVERFLOW: TOTBITS is T, OUTCNT is 0, OUT is unspecified (43_serializer.md R168, R170). -/
def State.serializeOverflow (s : State) (t : Nat) : State :=
  { s with totbits := BitVec.ofNat 32 t, outcnt := 0, out := Memory.unspecified }

/-- The writes of a SERIALIZE that succeeds (43_serializer.md R166, R168). -/
def State.serializeOutput (s : State) (n t : Nat) : State :=
  { s with
    totbits := BitVec.ofNat 32 t
    out := s.out.writeFrom 0 (outWords n t)
    outcnt := BitVec.ofNat 32 (chunks t + 1) }

/-- What SERIALIZE does once every word size is in range: the capacity check (43_serializer.md R170), then the output. -/
def State.serializeAssembled (s : State) (n t : Nat) : State :=
  if s.params.outMax < chunks t + 1 then
    (s.serializeOverflow t).fail .outOverflow (BitVec.ofNat 32 (chunks t + 1)) 0
  else (s.serializeOutput n t).complete

/-- SERIALIZE after the per-pixel arrays are written: the degenerate input, the bounds check, the assembly
(43_serializer.md R168, 60_exceptions.md R233). -/
def State.serializeDiffs (s : State) (ds : List Word) : State :=
  if ds.length = 0 then s.serializeEmpty.complete
  else
    match boundsViolation ds with
    | some (p, b) => s.serializeBRange.fail .bRange (BitVec.ofNat 32 p.val) (BitVec.ofNat 4 b)
    | none => s.serializeAssembled (assemble ds).1 (assemble ds).2

/-- SERIALIZE (43_serializer.md R168). -/
def execSerialize (s : State) : Result :=
  s.withFrames s.serializeNframesRange fun fs => .next ((s.writePixels (diffs fs)).serializeDiffs (diffs fs))

end Sys2Proof.Machine
end

