-- ==== Sys2Proof/Machine/SpiralRle.lean ====
section
/-! DEFINITION. The spiral reorder, the run-length code and the SPIRAL command (44_spiral_rle.md). -/

namespace Sys2Proof.Machine

open Sys2Proof Sys2Proof.Config

/-- `perm(m)`: bit i of the mask goes to traversal position SPIRAL[i] (44_spiral_rle.md R190). -/
def spiralPerm (p : Params) (m : Word) : List Bool :=
  (List.finRange 64).foldl (fun s i => s.set p.spiral[i].val (m.getLsbD i.val)) (List.replicate 64 false)

/-- The code words of the rest of a bit sequence, for the current colour and run counter (44_spiral_rle.md R192). -/
def rleFrom (b : Nat) : List Bool → Bool → Nat → List Nat
  | [], _, count => [count]
  | x :: xs, color, count =>
    if x = color then
      if count + 1 = 2 ^ b then 0 :: rleFrom b xs color 1 else rleFrom b xs color (count + 1)
    else count :: rleFrom b xs (!color) 1

/-- The code words of a bit sequence: the colour is its first bit, the counter starts at 1 (44_spiral_rle.md R192). -/
def rleBits (b : Nat) : List Bool → List Nat
  | [] => []
  | c :: xs => rleFrom b xs c 1

/-- `rle_words(m, b)` (44_spiral_rle.md R192). -/
def rleWords (p : Params) (m : Word) (b : Nat) : List Nat := rleBits b (spiralPerm p m)

/-- `rle_len(m, b)` (44_spiral_rle.md R192). -/
def rleLen (p : Params) (m : Word) (b : Nat) : Nat := b * (rleWords p m b).length

/-- `m3_select(m)`: (b, minimal length) of Method 3 (44_spiral_rle.md R194). -/
def m3Select (p : Params) (m : Word) : Nat × Nat := selectBy (rleLen p m) m3Lo m3Hi

/-- The Method 3 bounds check, when the block has it: the lowest index of a mask whose b is out of range, with that b
(44_spiral_rle.md R197, R198; 60_exceptions.md R233). `i` is the index of the first mask. -/
def m3Violation (p : Params) : Nat → List Word → Option (Nat × Nat)
  | _, [] => none
  | i, m :: ms =>
    if p.m3BoundsCheck && outOfRange (m3Select p m).1 then some (i, (m3Select p m).1) else m3Violation p (i + 1) ms

/-- The M3RES words of a mask sequence (44_spiral_rle.md R195). -/
def m3Words (p : Params) (ms : List Word) : List Word := ms.map fun m => m3Word (m3Select p m).1 (m3Select p m).2

/-- M3TOTAL, the sum of the minimal lengths (44_spiral_rle.md R196). -/
def m3Total (p : Params) (ms : List Word) : Nat := (ms.map fun m => (m3Select p m).2).sum

/-- The failure actions of NFRAMES_RANGE in SPIRAL. DESIGN CHOICE: the spec's rules differ, and a parameter chooses between them:
nothing is written (44_spiral_rle.md R197, 45_command_control.md R213), or M3CNT is 0 and M3RES is unspecified
(70_reset_and_hazards.md R268, 93_implementation_defined.md U3). See notes/assumptions/20.md. -/
def State.spiralNframesRange (s : State) : State :=
  { s with
    m3cnt := if s.params.nframesRangeZeroes then 0 else s.m3cnt
    m3res := if s.params.nframesRangeZeroes then Memory.unspecified else s.m3res }

/-- The failure actions of M3_B_RANGE: M3CNT and M3TOTAL are 0, M3RES is unspecified (44_spiral_rle.md R197). -/
def State.spiralBRange (s : State) : State :=
  { s with m3cnt := 0, m3total := 0, m3res := Memory.unspecified }

/-- The writes of a SPIRAL that succeeds (44_spiral_rle.md R195 to R197). -/
def State.spiralOutput (s : State) (ms : List Word) : State :=
  { s with
    m3res := s.m3res.writeFrom 0 (m3Words s.params ms)
    m3cnt := BitVec.ofNat 32 ms.length
    m3total := BitVec.ofNat 32 (m3Total s.params ms) }

/-- SPIRAL over the selected mask sequence (44_spiral_rle.md R197). -/
def State.spiralMasks (s : State) (ms : List Word) : State :=
  match m3Violation s.params 0 ms with
  | some (i, b) => s.spiralBRange.fail .m3BRange (BitVec.ofNat 32 i) (BitVec.ofNat 4 b)
  | none => (s.spiralOutput ms).complete

/-- SPIRAL (44_spiral_rle.md R197). -/
def execSpiral (src : Src) (s : State) : Result :=
  s.withFrames s.spiralNframesRange fun fs => .next (s.spiralMasks (selectMasks src fs))

end Sys2Proof.Machine
end

