-- ==== Sys2Proof/Machine/Dispatch.lean ====
section
/-! DEFINITION. The dispatch of a command to its meaning, one arm per row of spec/opcode_table.json. -/

namespace Sys2Proof.Machine

open Sys2Proof

def exec (i : Instr) (s : State) : Host.Outcome State Fault Refusal :=
  match i with
  | .nop => Sys2Proof.Machine.execNop s
  | .clear => Sys2Proof.Machine.execClear s
  | .select => Sys2Proof.Machine.execSelect s
  | .serialize => Sys2Proof.Machine.execSerialize s
  | .spiral src => Sys2Proof.Machine.execSpiral src s

end Sys2Proof.Machine
end

