-- ==== Sys2Proof/Machine/AddressMap.lean ====
section
/-! DEFINITION. The address map of the host port (20_memory.md R64): what each word address names, and the address of each name. -/

namespace Sys2Proof.Machine

open Sys2Proof Sys2Proof.Config

/-- The rows of the address map: the registers and the elements of the windows, whether or not within the block's capacities
(20_memory.md R64). -/
inductive Target where
  | id
  | params
  | caps
  | nframes
  | cmd
  | status
  | irqen
  | errinfo
  | totbits
  | outcnt
  | m3cnt
  | m3total
  | tlsel
  | tldata
  | tllen
  | pixres (p : Pixel)
  | pixlen (p : Pixel) (b : Fin 16)
  | spiral (i : Fin 64)
  | frame (i : Fin 65536)
  | diff (i : Fin 65536)
  | m3res (i : Fin 65536)
  | out (i : Fin 1048576)
  deriving DecidableEq, Repr

/-- The word address of a row, as a number (20_memory.md R64). -/
def Target.address : Target → Nat
  | .id => 0x00
  | .params => 0x01
  | .caps => 0x02
  | .nframes => 0x03
  | .cmd => 0x04
  | .status => 0x05
  | .irqen => 0x06
  | .errinfo => 0x07
  | .totbits => 0x08
  | .outcnt => 0x09
  | .m3cnt => 0x0A
  | .m3total => 0x0B
  | .tlsel => 0x0C
  | .tldata => 0x0D
  | .tllen => 0x0E
  | .pixres p => 0x100 + p.val
  | .pixlen p b => 0x400 + (16 * p.val + b.val)
  | .spiral i => 0x800 + i.val
  | .frame i => 0x10000 + i.val
  | .diff i => 0x20000 + i.val
  | .m3res i => 0x30000 + i.val
  | .out i => 0x100000 + i.val

/-- The word address of a row (20_memory.md R64). -/
def Target.addr (t : Target) : Addr := BitVec.ofNat 32 t.address

/-- The register rows, addresses 0x00 to 0x0E; 0x0F and what lies below 0x100 is reserved (20_memory.md R64). -/
def registerAt : Nat → Option Target
  | 0x00 => some .id
  | 0x01 => some .params
  | 0x02 => some .caps
  | 0x03 => some .nframes
  | 0x04 => some .cmd
  | 0x05 => some .status
  | 0x06 => some .irqen
  | 0x07 => some .errinfo
  | 0x08 => some .totbits
  | 0x09 => some .outcnt
  | 0x0A => some .m3cnt
  | 0x0B => some .m3total
  | 0x0C => some .tlsel
  | 0x0D => some .tldata
  | 0x0E => some .tllen
  | _ => none

/-- The window element at offset `n` of a window of `size` elements that starts at `base`. -/
def windowAt (base size n : Nat) (mk : Fin size → Target) : Option Target :=
  if h : base ≤ n ∧ n < base + size then some (mk ⟨n - base, by omega⟩) else none

/-- The PIXLEN element of a window offset: `16p + b` (20_memory.md R64). -/
def pixlenTarget (k : Fin 1024) : Target :=
  .pixlen ⟨k.val / 16, by omega⟩ ⟨k.val % 16, by omega⟩

/-- The window rows (20_memory.md R64). -/
def elementAt (n : Nat) : Option Target :=
  (windowAt 0x100 64 n .pixres) <|>
  (windowAt 0x400 1024 n pixlenTarget) <|>
  (windowAt 0x800 64 n .spiral) <|>
  (windowAt 0x10000 65536 n .frame) <|>
  (windowAt 0x20000 65536 n .diff) <|>
  (windowAt 0x30000 65536 n .m3res) <|>
  (windowAt 0x100000 1048576 n .out)

/-- What a word address names; `none` is a reserved address (20_memory.md R64). -/
def targetAt (a : Addr) : Option Target :=
  if a.toNat < 0x100 then registerAt a.toNat else elementAt a.toNat

/-- The row is within the block's capacities (20_memory.md R65): FRAME and M3RES below N_MAX, DIFF below N_MAX - 1, OUT below
OUT_MAX. -/
def Target.present (p : Params) : Target → Bool
  | .frame i => decide (i.val < p.nMax)
  | .diff i => decide (i.val + 1 < p.nMax)
  | .m3res i => decide (i.val < p.nMax)
  | .out i => decide (i.val < p.outMax)
  | _ => true

/-- What a host address reaches in this block: a row within the capacities, or nothing (20_memory.md R65). -/
def State.targetAt (s : State) (a : Addr) : Option Target :=
  (Machine.targetAt a).filter fun t => t.present s.params

end Sys2Proof.Machine
end

