-- ==== Sys2Proof/Machine/HostPort.lean ====
section
/-! DEFINITION. The host port: reads, writes and their refusals, the live read-outs, and the moves of the host (20_memory.md,
10_state.md R33 to R50, 70_reset_and_hazards.md R264). -/

namespace Sys2Proof.Machine

open Sys2Proof Sys2Proof.Config

/-- What a read of a row gives. -/
inductive ReadOut where
  /-- An exact word. -/
  | word (w : Word)
  /-- A word the spec leaves unspecified but the same for every read until a write or a completion (20_memory.md R66). -/
  | standing
  /-- A word the spec leaves unspecified, drawn afresh at each read (10_state.md R48, 20_memory.md R66). -/
  | drawn
  /-- FRAME[index] has not been written since reset (10_state.md R50). -/
  | unwritten (index : Nat)
  deriving DecidableEq, Repr

/-- A result register or window: exact when no command runs, a free draw while one does (10_state.md R48). -/
def State.resultRead (s : State) (r : ReadOut) : ReadOut := if s.busy then .drawn else r

/-- A word of OUT or M3RES at an index, of which the first `count` are valid (10_state.md R41, R42). -/
def validRead (m : Memory) (count i : Nat) : ReadOut :=
  if i < count then
    match m.read i with
    | some w => .word w
    | none => .standing
  else .standing

/-- FRAME[i] read by the host (10_state.md R39, R50; notes/assumptions/5.md for a frame that is not written). -/
def State.readFrame (s : State) (i : Nat) : ReadOut :=
  match s.frame.read i with
  | some w => .word w
  | none => .unwritten i

/-- DIFF[i] (10_state.md R40). -/
def State.readDiff (s : State) (i : Nat) : ReadOut :=
  if !s.nframesTooMany && decide (i + 1 < s.nframes.toNat) then
    match s.frame.read i, s.frame.read (i + 1) with
    | some f, some g => .word (f ^^^ g)
    | none, _ => .unwritten i
    | some _, none => .unwritten (i + 1)
  else .word 0

/-- A read-out computed from TL(PIX) over the current frames; 0 when NFRAMES > N_MAX (10_state.md R34, R35). With NFRAMES < 2
the diff sequence is empty whatever FRAME holds (41_diff_timeline.md R120, R125), so the read-out reads no frame. -/
def State.readTimeline (s : State) (k : List Nat → Word) : ReadOut :=
  if s.nframesTooMany then .word 0
  else if s.nframes.toNat < 2 then .word (k (timeline [] s.tlsel.pixel))
  else
    match s.frames with
    | .error i => .unwritten i
    | .ok fs => .word (k (timeline (diffs fs) s.tlsel.pixel))

/-- TLDATA of a timeline: element IDX with VALID, or 0 beyond the timeline (10_state.md R34). -/
def tlDataOf (t : List Nat) (idx : Nat) : Word :=
  match t[idx]? with
  | some v => tlDataWord v
  | none => 0

/-- What a read of each row gives (10_state.md R21 to R42, R48). -/
def State.readTarget (s : State) : Target → ReadOut
  | .id => .word idWord
  | .params => .word (paramsWord s.params)
  | .caps => .word (capsWord s.params)
  | .nframes => .word (lowWord s.nframes)
  | .cmd => .word s.cmd
  | .status => .word s.statusWord
  | .irqen => .word s.irqenWord
  | .errinfo => s.resultRead (.word s.errinfo.word)
  | .totbits => s.resultRead (.word (lowWord s.totbits))
  | .outcnt => s.resultRead (.word (lowWord s.outcnt))
  | .m3cnt => s.resultRead (.word (lowWord s.m3cnt))
  | .m3total => s.resultRead (.word (lowWord s.m3total))
  | .tlsel => .word s.tlsel.word
  | .tldata => s.readTimeline fun t => tlDataOf t s.tlsel.idx.toNat
  | .tllen => s.readTimeline fun t => lowWord (BitVec.ofNat 32 t.length)
  | .pixres p => s.resultRead (.word s.pixres[p].word)
  | .pixlen p b => s.resultRead (.word (lowWord s.pixlen[p][b]))
  | .spiral i => .word (spiralWord s.params i)
  | .frame i => s.readFrame i.val
  | .diff i => s.readDiff i.val
  | .m3res i => s.resultRead (validRead s.m3res s.m3cnt.toNat i.val)
  | .out i => s.resultRead (validRead s.out s.outcnt.toNat i.val)

/-- The host transaction Read(addr) (20_memory.md R61, R63, R65, R66). -/
def hostRead (a : Addr) (s : State) : Result :=
  match s.targetAt a with
  | none => .next (s.answer (.read 0 .error))
  | some t =>
    match s.readTarget t with
    | .word w => .next (s.answer (.read w .okay))
    | .standing => .next (s.answer (.read (freeWord s.draws a) .okay))
    | .drawn => .next (s.answer (.read (freeWord s.draws a) .okay)).draw
    | .unwritten i => .fault (.uninitFrame i)

/-- What an accepted host write of `d` does to each row that takes writes; `none` is a refusal: a write to a read-only row
(20_memory.md R65), or one refused while BUSY = 1 (R67). -/
def State.writeTarget (s : State) (d : Word) : Target → Option State
  | .nframes => if s.busy then none else some (s.withNframes (d.extractLsb' 0 32))
  | .cmd => if s.busy then none else some (s.start d (freeLatency s.draws))
  | .status => some (s.withStatus (s.status.w1c d))
  | .irqen => some (s.withDoneIe (d.getLsbD 0))
  | .tlsel => some (s.withTlsel (TlSel.ofWord d))
  | .frame i => if s.busy then none else some (s.withFrame (s.frame.write i.val d))
  | .id => none
  | .params => none
  | .caps => none
  | .errinfo => none
  | .totbits => none
  | .outcnt => none
  | .m3cnt => none
  | .m3total => none
  | .tldata => none
  | .tllen => none
  | .pixres _ => none
  | .pixlen _ _ => none
  | .spiral _ => none
  | .diff _ => none
  | .m3res _ => none
  | .out _ => none

/-- The host transaction Write(addr, data) (20_memory.md R61, R63, R65, R67). -/
def hostWrite (a : Addr) (d : Word) (s : State) : State :=
  match (s.targetAt a).bind (s.writeTarget d) with
  | some t => (t.answer (.write .okay)).draw
  | none => s.answer (.write .error)

/-- The address of STATUS (20_memory.md R64). -/
def statusAddr : Addr := Target.status.addr

/-- One turn of the pseudo-instruction `wait`: read STATUS, and wait on while BUSY = 1 (30_encoding.md R97). -/
def hostWait (s : State) : Result :=
  hostRead statusAddr (if s.busy then s.withMoves (.wait :: s.moves) else s)

/-- One look of the host at the irq line (20_memory.md R71, 70_reset_and_hazards.md R262). -/
def hostWaitIrq (s : State) : State :=
  if s.irq then s else s.withMoves (.waitIrq :: s.moves)

/-- A host transaction is answered only while `rst` is released (70_reset_and_hazards.md R260). -/
def State.whenReleased (s : State) (r : Result) : Result :=
  if s.rst then .refused .transactionUnderReset else r

/-- A move of the host on a block that has it no longer before it (20_memory.md R70, 70_reset_and_hazards.md R264). -/
def hostMove (m : Move) (s : State) : Result :=
  match m with
  | .read a => s.whenReleased (hostRead a s)
  | .write a d => s.whenReleased (.next (hostWrite a d s))
  | .wait => s.whenReleased (hostWait s)
  | .waitIrq => .next (hostWaitIrq s)
  | .assertRst => .next s.assertReset
  | .releaseRst => .next (s.withRst false)

end Sys2Proof.Machine
end

