-- ==== Sys2Proof/Machine/HostProgram.lean ====
section
/-! DEFINITION. The host-program syntax: each form as the host moves it stands for (30_encoding.md R97). -/

namespace Sys2Proof.Machine.HostProgram

open Sys2Proof Sys2Proof.Machine

/-- `wr NAME, v`. -/
def wr (t : Target) (v : Word) : List Move := [.write t.addr v]

/-- `rd NAME`. -/
def rd (t : Target) : List Move := [.read t.addr]

/-- `cmd MNEMONIC` and `cmd SPIRAL, src=1`: a write of the command word to CMD. -/
def cmd (i : Instr) : List Move := wr .cmd (encode i)

/-- `wait`. -/
def wait : List Move := [.wait]

/-- `fill FRAME[a..b], v`: writes of v to FRAME[a], FRAME[a+1], ..., FRAME[b], ascending. -/
def fill (a b : Fin 65536) (v : Word) : List Move :=
  (List.range' a.val (b.val + 1 - a.val)).map fun i => .write (BitVec.ofNat 32 (0x10000 + i)) v

/-- `clr STATUS`: clear DONE and ERR. -/
def clr : List Move := wr .status 0x6#64

end Sys2Proof.Machine.HostProgram
end

