-- ==== Sys2Proof/Machine/Step.lean ====
section
/-! DEFINITION. The step of the machine: one move of one of its two agents, the host and the command sequencer (20_memory.md
R70). -/

namespace Sys2Proof.Machine

open Sys2Proof

/-- The sequencer's one atomic step: the whole of the running command, from its word to its completion (45_command_control.md
R211, R212). -/
def runCommand (w : Word) (s : State) : Host.Outcome State Fault Refusal :=
  match decode w with
  | .ok i => exec i s
  | .error _ => .next (illegalCommand s)

/-- One step. A running command completes when the host moves it lets pass are used up, or when the host has none to make;
until then, and while the sequencer is IDLE, the host makes its next move. With nothing to do the block keeps its state
(60_exceptions.md R245). -/
def step (s : State) : Host.Outcome State Fault Refusal :=
  match s.seq, s.moves with
  | .running w 0, _ => runCommand w s
  | .running w (_ + 1), [] => runCommand w s
  | .running w (n + 1), m :: ms => hostMove m ((s.withSeq (.running w n)).withMoves ms)
  | .idle, [] => .next s
  | .idle, m :: ms => hostMove m (s.withMoves ms)

/-- The state in which the very next step runs the command word `w`, as a host write of it to CMD leaves it (45_command_control.md
R210): the sequencer runs it and lets no host move pass first. `rst` is released, since a block under reset runs nothing. -/
def State.withFetchWord (s : State) (nbits w : Nat) : State :=
  (s.start (BitVec.ofNat 64 (w % 2 ^ nbits)) 0).withRst false

end Sys2Proof.Machine
end

