-- ==== Sys2Proof/Safety.lean ====
section
/-! DEFINITION. What counts as a good state and a good run, in the terms the claims use: the inputs a command needs
(70_reset_and_hazards.md R262, R269), what each command may write (20_memory.md R69), and the invariant of the block. -/

namespace Sys2Proof.Machine

open Sys2Proof Sys2Proof.Config

/-- NFRAMES ≤ N_MAX (45_command_control.md R213). -/
def State.framesFit (s : State) : Prop := s.nframes.toNat ≤ s.params.nMax

/-- Every FRAME[i], i < NFRAMES, has been written since reset (70_reset_and_hazards.md R269). -/
def State.framesWritten (s : State) : Prop := ∀ i, i < s.nframes.toNat → (s.frame.read i).isSome = true

/-- What SELECT, SERIALIZE and SPIRAL need to read their input (70_reset_and_hazards.md R262). -/
def State.inputReady (s : State) : Prop := s.framesFit ∧ s.framesWritten

/-- `F = [FRAME[0], ..., FRAME[NFRAMES - 1]]`, with 0 where a word is unwritten (41_diff_timeline.md R122). -/
def State.frameList (s : State) : List Word :=
  (List.range s.nframes.toNat).map fun i => (s.frame.read i).getD 0

/-- The diff sequence D of the frames in memory (41_diff_timeline.md R122). -/
def State.diffList (s : State) : List Word := diffs s.frameList

/-- TL(p) over the frames in memory (41_diff_timeline.md R123). -/
def State.tl (s : State) (p : Pixel) : List Nat := timeline s.diffList p

/-- What no command writes: the parameters, the registers and memory of the host, the reset line and the port
(20_memory.md R69). -/
def State.hostSide (s : State) :=
  (s.params, s.nframes, s.cmd, s.doneIe, s.tlsel, s.frame, s.rst, s.moves, s.port)

/-- The per-pixel result arrays, written by CLEAR, SELECT and SERIALIZE (20_memory.md R69). -/
def State.pixelSide (s : State) := (s.pixres, s.pixlen)

/-- The results of SERIALIZE (20_memory.md R69). -/
def State.serialSide (s : State) := (s.totbits, s.outcnt, s.out)

/-- The results of SPIRAL (20_memory.md R69). -/
def State.spiralSide (s : State) := (s.m3cnt, s.m3total, s.m3res)

/-- STATUS, ERRINFO and the sequencer as a successful completion leaves them (45_command_control.md R211). -/
def State.completedFrom (t s : State) : Prop :=
  t.status.done = true ∧ t.status.err = s.status.err ∧ t.status.errcode = s.status.errcode ∧
    t.status.lastop = s.status.lastop ∧ t.errinfo = { index := 0, b := 0 } ∧ t.seq = .idle

/-- STATUS, ERRINFO and the sequencer as a failed completion leaves them (45_command_control.md R211, 60_exceptions.md R235). -/
def State.failedFrom (t s : State) (code : ErrCode) (index : BitVec 32) (b : BitVec 4) : Prop :=
  t.status.done = true ∧ t.status.err = true ∧ t.status.errcode = code ∧
    t.status.lastop = s.status.lastop ∧ t.errinfo = { index := index, b := b } ∧ t.seq = .idle

/-- The last command has completed without an error: the premise "no error" of a claim about results
(93_implementation_defined.md V1, 70_reset_and_hazards.md R263). -/
def State.succeeded (s : State) : Bool := !s.busy && s.status.done && !s.status.err

/-- The number whose 64-bit digits, least significant first, are the words 0 .. k - 1 of a memory (43_serializer.md R166). -/
def streamValue (m : Memory) : Nat → Nat
  | 0 => 0
  | k + 1 => streamValue m k + (((m.read k).getD 0).toNat <<< (64 * k))

/-- The invariant of the block: what every reachable state has. -/
structure State.Inv (s : State) : Prop where
  /-- The parameters lie in their ranges (00_scope.md R8). -/
  params_ok : s.params.wellFormed = true
  /-- FRAME is in canonical form and within N_MAX (10_state.md R39). -/
  frame_wf : s.frame.wf
  frame_below : s.frame.below s.params.nMax
  /-- OUT is in canonical form and within OUT_MAX (10_state.md R42). -/
  out_wf : s.out.wf
  out_below : s.out.below s.params.outMax
  /-- M3RES is in canonical form and within N_MAX (10_state.md R41). -/
  m3_wf : s.m3res.wf
  m3_below : s.m3res.below s.params.nMax
  /-- Every valid OUT word is held, and the last of them is the trailing zero word (10_state.md R42). -/
  out_valid : ∀ i, i < s.outcnt.toNat → (s.out.read i).isSome = true
  out_guard : 0 < s.outcnt.toNat → s.out.read (s.outcnt.toNat - 1) = some 0
  /-- Every valid M3RES entry is held (10_state.md R41). -/
  m3_valid : ∀ i, i < s.m3cnt.toNat → (s.m3res.read i).isSome = true
  /-- PIXLEN[p][0] and PIXLEN[p][1] are 0 (10_state.md R37). -/
  pixlen_low : ∀ p : Pixel, s.pixlen[p][0] = 0 ∧ s.pixlen[p][1] = 0
  /-- A valid PIXRES[p] has B in 2..15 and the length PIXLEN[p][B] (10_state.md R36, R37). -/
  pixres_valid : ∀ p : Pixel, s.pixres[p].valid = true →
    2 ≤ s.pixres[p].b.toNat ∧ s.pixres[p].dlen = s.pixlen[p][s.pixres[p].b.toNat]'(s.pixres[p].b.isLt)
  /-- ERRCODE is 0 exactly when ERR = 0 (10_state.md R26). -/
  errcode_none : s.status.err = false ↔ s.status.errcode = .none
  /-- LASTOP is CMD[7:0] of the last command started (10_state.md R26). -/
  lastop_cmd : s.status.lastop = s.cmd.extractLsb' 0 8
  /-- While a command runs, CMD holds it, DONE and ERR are 0 and reset is released (45_command_control.md R210,
  60_exceptions.md R234). -/
  running : ∀ w n, s.seq = .running w n →
    s.cmd = w ∧ s.status.done = false ∧ s.status.err = false ∧ s.rst = false

end Sys2Proof.Machine
end

