-- ==== Sys2Proof/Laws/Memory.lean ====
section
/-! SUPPORT. What each memory operation does: reads after writes, the canonical form, and the frame sequence read from memory. -/

namespace Sys2Proof.Machine

open Sys2Proof Sys2Proof.Config

@[simp] theorem Memory.read_nil (i : Nat) : Memory.read [] i = none := rfl

theorem Memory.read_write_same (m : Memory) (i : Nat) (w : Word) : (m.write i w).read i = some w := by
  induction m with
  | nil => simp [Memory.write, Memory.read]
  | cons c m ih =>
    obtain ⟨j, v⟩ := c
    simp only [Memory.write]
    split
    · simp [Memory.read]
    · split
      · simp [Memory.read]
      · rename_i h
        simp [Memory.read, h, ih]

theorem Memory.read_write_ne (m : Memory) {i k : Nat} (w : Word) (h : k ≠ i) : (m.write i w).read k = m.read k := by
  induction m with
  | nil => simp [Memory.write, Memory.read, h]
  | cons c m ih =>
    obtain ⟨j, v⟩ := c
    simp only [Memory.write]
    split
    · simp [Memory.read, h]
    · split
      · rename_i hij
        subst hij
        simp [Memory.read, h]
      · simp [Memory.read, ih]

/-- A read after a write. -/
theorem Memory.read_write (m : Memory) (i k : Nat) (w : Word) :
    (m.write i w).read k = if k = i then some w else m.read k := by
  split
  · rename_i h
    subst h
    exact m.read_write_same k w
  · rename_i h
    exact m.read_write_ne w h

/-- The entries after a write are the new one and entries of before. -/
theorem Memory.mem_write {m : Memory} {i : Nat} {w : Word} {c : Nat × Word} (h : c ∈ m.write i w) : c = (i, w) ∨ c ∈ m := by
  induction m with
  | nil => simpa [Memory.write] using h
  | cons d m ih =>
    obtain ⟨j, v⟩ := d
    simp only [Memory.write] at h
    split at h
    · simpa using h
    · split at h
      · rcases List.mem_cons.1 h with h | h
        · exact .inl h
        · exact .inr (List.mem_cons_of_mem _ h)
      · rcases List.mem_cons.1 h with h | h
        · exact .inr (by simp [h])
        · exact (ih h).imp id (List.mem_cons_of_mem _)

/-- A write keeps the canonical form. -/
theorem Memory.write_wf {m : Memory} (i : Nat) (w : Word) (h : m.wf) : (m.write i w).wf := by
  induction m with
  | nil => simp [Memory.write]
  | cons c m ih =>
    obtain ⟨j, v⟩ := c
    obtain ⟨hlt, hm⟩ := List.pairwise_cons.1 h
    simp only [Memory.write]
    split
    · rename_i hij
      refine List.pairwise_cons.2 ⟨fun d hd => ?_, h⟩
      rcases List.mem_cons.1 hd with rfl | hd
      · exact hij
      · exact Nat.lt_trans hij (hlt d hd)
    · split
      · rename_i hij
        subst hij
        exact List.pairwise_cons.2 ⟨hlt, hm⟩
      · refine List.pairwise_cons.2 ⟨fun d hd => ?_, ih hm⟩
        rcases Memory.mem_write hd with rfl | hd
        · show j < i
          omega
        · exact hlt d hd

/-- A write below the capacity keeps a memory below it. -/
theorem Memory.write_below {m : Memory} {cap i : Nat} (w : Word) (h : m.below cap) (hi : i < cap) : (m.write i w).below cap := by
  intro c hc
  rcases Memory.mem_write hc with rfl | hc
  · exact hi
  · exact h c hc

theorem Memory.writeFrom_wf {m : Memory} (i : Nat) (ws : List Word) (h : m.wf) : (m.writeFrom i ws).wf := by
  induction ws generalizing m i with
  | nil => exact h
  | cons w ws ih => exact ih (i + 1) (Memory.write_wf i w h)

theorem Memory.writeFrom_below {m : Memory} {cap i : Nat} {ws : List Word} (h : m.below cap) (hi : i + ws.length ≤ cap) :
    (m.writeFrom i ws).below cap := by
  induction ws generalizing m i with
  | nil => exact h
  | cons w ws ih =>
    simp only [List.length_cons] at hi
    exact ih (Memory.write_below w h (by omega)) (by omega)

/-- A read after a store of consecutive words: the stored word inside their range, the word of before outside it. -/
theorem Memory.read_writeFrom (m : Memory) (i k : Nat) (ws : List Word) :
    (m.writeFrom i ws).read k = if i ≤ k ∧ k < i + ws.length then ws[k - i]? else m.read k := by
  induction ws generalizing m i with
  | nil =>
    have h : ¬(i ≤ k ∧ k < i + 0) := by omega
    exact (if_neg h).symm
  | cons w ws ih =>
    simp only [Memory.writeFrom, ih, Memory.read_write, List.length_cons]
    by_cases hk : k = i
    · subst hk
      have h2 : k ≤ k ∧ k < k + (ws.length + 1) := by omega
      simp [h2]
    · by_cases hr : i + 1 ≤ k ∧ k < i + 1 + ws.length
      · have h2 : i ≤ k ∧ k < i + (ws.length + 1) := by omega
        have h3 : k - i = (k - (i + 1)) + 1 := by omega
        rw [if_pos hr, if_pos h2, h3, List.getElem?_cons_succ]
      · have h2 : ¬(i ≤ k ∧ k < i + (ws.length + 1)) := by omega
        rw [if_neg hr, if_neg h2, if_neg hk]

/-- In canonical form a memory is what its reads say it is, so equal memories are equal data. -/
theorem Memory.read_eq_some_iff {m : Memory} (h : m.wf) (i : Nat) (w : Word) : m.read i = some w ↔ (i, w) ∈ m := by
  induction m with
  | nil => simp
  | cons c m ih =>
    obtain ⟨j, v⟩ := c
    obtain ⟨hlt, hm⟩ := List.pairwise_cons.1 h
    simp only [Memory.read, List.mem_cons, Prod.mk.injEq]
    split
    · rename_i hij
      subst hij
      constructor
      · intro e
        exact .inl ⟨rfl, by simpa using e.symm⟩
      · rintro (⟨-, rfl⟩ | hmem)
        · rfl
        · exact absurd (hlt _ hmem) (Nat.lt_irrefl _)
    · rename_i hij
      rw [ih hm]
      simp [hij]

/-- What `readFrom` answers: the words, when each index holds one, and else the first index that holds none. -/
theorem Memory.readFrom_spec (m : Memory) (i n : Nat) :
    (∃ j, m.readFrom i n = .error j ∧ i ≤ j ∧ j < i + n ∧ m.read j = none ∧ ∀ k, i ≤ k → k < j → (m.read k).isSome = true) ∨
    (m.readFrom i n = .ok ((List.range' i n).map fun k => (m.read k).getD 0) ∧
      ∀ k, i ≤ k → k < i + n → (m.read k).isSome = true) := by
  induction n generalizing i with
  | zero => exact .inr ⟨rfl, fun k h1 h2 => by omega⟩
  | succ n ih =>
    simp only [Memory.readFrom]
    cases hr : m.read i with
    | none => exact .inl ⟨i, rfl, by omega, by omega, hr, fun k h1 h2 => by omega⟩
    | some w =>
      rcases ih (i + 1) with ⟨j, he, h1, h2, h3, h4⟩ | ⟨he, h1⟩
      · refine .inl ⟨j, by simp [he], by omega, by omega, h3, fun k hk1 hk2 => ?_⟩
        by_cases hk : k = i
        · simp [hk, hr]
        · exact h4 k (by omega) hk2
      · refine .inr ⟨by simp [he, List.range'_succ, hr], fun k hk1 hk2 => ?_⟩
        by_cases hk : k = i
        · simp [hk, hr]
        · exact h1 k (by omega) (by omega)

end Sys2Proof.Machine
end

