-- ==== Sys2Proof/Laws/State.lean ====
section
/-! SUPPORT. One lemma per field of State per update the machine makes, true by unfolding the update, so that no later proof
unfolds a record update. -/

namespace Sys2Proof.Machine

open Sys2Proof Sys2Proof.Config

variable (s : State)

/-! `State.complete` -/
@[simp] theorem State.complete_params : s.complete.params = s.params := rfl
@[simp] theorem State.complete_nframes : s.complete.nframes = s.nframes := rfl
@[simp] theorem State.complete_cmd : s.complete.cmd = s.cmd := rfl
@[simp] theorem State.complete_status : s.complete.status = s.status.completed := rfl
@[simp] theorem State.complete_doneIe : s.complete.doneIe = s.doneIe := rfl
@[simp] theorem State.complete_errinfo : s.complete.errinfo = { index := 0, b := 0 } := rfl
@[simp] theorem State.complete_totbits : s.complete.totbits = s.totbits := rfl
@[simp] theorem State.complete_outcnt : s.complete.outcnt = s.outcnt := rfl
@[simp] theorem State.complete_m3cnt : s.complete.m3cnt = s.m3cnt := rfl
@[simp] theorem State.complete_m3total : s.complete.m3total = s.m3total := rfl
@[simp] theorem State.complete_tlsel : s.complete.tlsel = s.tlsel := rfl
@[simp] theorem State.complete_pixres : s.complete.pixres = s.pixres := rfl
@[simp] theorem State.complete_pixlen : s.complete.pixlen = s.pixlen := rfl
@[simp] theorem State.complete_frame : s.complete.frame = s.frame := rfl
@[simp] theorem State.complete_out : s.complete.out = s.out := rfl
@[simp] theorem State.complete_m3res : s.complete.m3res = s.m3res := rfl
@[simp] theorem State.complete_seq : s.complete.seq = .idle := rfl
@[simp] theorem State.complete_rst : s.complete.rst = s.rst := rfl
@[simp] theorem State.complete_moves : s.complete.moves = s.moves := rfl
@[simp] theorem State.complete_port : s.complete.port = s.port := rfl
@[simp] theorem State.complete_draws : s.complete.draws = s.draws + 1 := rfl

/-! `State.fail` -/
@[simp] theorem State.fail_params (code : ErrCode) (index : BitVec 32) (b : BitVec 4) : (s.fail code index b).params = s.params := rfl
@[simp] theorem State.fail_nframes (code : ErrCode) (index : BitVec 32) (b : BitVec 4) : (s.fail code index b).nframes = s.nframes := rfl
@[simp] theorem State.fail_cmd (code : ErrCode) (index : BitVec 32) (b : BitVec 4) : (s.fail code index b).cmd = s.cmd := rfl
@[simp] theorem State.fail_status (code : ErrCode) (index : BitVec 32) (b : BitVec 4) : (s.fail code index b).status = s.status.failed code := rfl
@[simp] theorem State.fail_doneIe (code : ErrCode) (index : BitVec 32) (b : BitVec 4) : (s.fail code index b).doneIe = s.doneIe := rfl
@[simp] theorem State.fail_errinfo (code : ErrCode) (index : BitVec 32) (b : BitVec 4) : (s.fail code index b).errinfo = { index := index, b := b } := rfl
@[simp] theorem State.fail_totbits (code : ErrCode) (index : BitVec 32) (b : BitVec 4) : (s.fail code index b).totbits = s.totbits := rfl
@[simp] theorem State.fail_outcnt (code : ErrCode) (index : BitVec 32) (b : BitVec 4) : (s.fail code index b).outcnt = s.outcnt := rfl
@[simp] theorem State.fail_m3cnt (code : ErrCode) (index : BitVec 32) (b : BitVec 4) : (s.fail code index b).m3cnt = s.m3cnt := rfl
@[simp] theorem State.fail_m3total (code : ErrCode) (index : BitVec 32) (b : BitVec 4) : (s.fail code index b).m3total = s.m3total := rfl
@[simp] theorem State.fail_tlsel (code : ErrCode) (index : BitVec 32) (b : BitVec 4) : (s.fail code index b).tlsel = s.tlsel := rfl
@[simp] theorem State.fail_pixres (code : ErrCode) (index : BitVec 32) (b : BitVec 4) : (s.fail code index b).pixres = s.pixres := rfl
@[simp] theorem State.fail_pixlen (code : ErrCode) (index : BitVec 32) (b : BitVec 4) : (s.fail code index b).pixlen = s.pixlen := rfl
@[simp] theorem State.fail_frame (code : ErrCode) (index : BitVec 32) (b : BitVec 4) : (s.fail code index b).frame = s.frame := rfl
@[simp] theorem State.fail_out (code : ErrCode) (index : BitVec 32) (b : BitVec 4) : (s.fail code index b).out = s.out := rfl
@[simp] theorem State.fail_m3res (code : ErrCode) (index : BitVec 32) (b : BitVec 4) : (s.fail code index b).m3res = s.m3res := rfl
@[simp] theorem State.fail_seq (code : ErrCode) (index : BitVec 32) (b : BitVec 4) : (s.fail code index b).seq = .idle := rfl
@[simp] theorem State.fail_rst (code : ErrCode) (index : BitVec 32) (b : BitVec 4) : (s.fail code index b).rst = s.rst := rfl
@[simp] theorem State.fail_moves (code : ErrCode) (index : BitVec 32) (b : BitVec 4) : (s.fail code index b).moves = s.moves := rfl
@[simp] theorem State.fail_port (code : ErrCode) (index : BitVec 32) (b : BitVec 4) : (s.fail code index b).port = s.port := rfl
@[simp] theorem State.fail_draws (code : ErrCode) (index : BitVec 32) (b : BitVec 4) : (s.fail code index b).draws = s.draws + 1 := rfl

/-! `State.start` -/
@[simp] theorem State.start_params (w : Word) (left : Nat) : (s.start w left).params = s.params := rfl
@[simp] theorem State.start_nframes (w : Word) (left : Nat) : (s.start w left).nframes = s.nframes := rfl
@[simp] theorem State.start_cmd (w : Word) (left : Nat) : (s.start w left).cmd = w := rfl
@[simp] theorem State.start_status (w : Word) (left : Nat) : (s.start w left).status = Status.started w := rfl
@[simp] theorem State.start_doneIe (w : Word) (left : Nat) : (s.start w left).doneIe = s.doneIe := rfl
@[simp] theorem State.start_errinfo (w : Word) (left : Nat) : (s.start w left).errinfo = s.errinfo := rfl
@[simp] theorem State.start_totbits (w : Word) (left : Nat) : (s.start w left).totbits = s.totbits := rfl
@[simp] theorem State.start_outcnt (w : Word) (left : Nat) : (s.start w left).outcnt = s.outcnt := rfl
@[simp] theorem State.start_m3cnt (w : Word) (left : Nat) : (s.start w left).m3cnt = s.m3cnt := rfl
@[simp] theorem State.start_m3total (w : Word) (left : Nat) : (s.start w left).m3total = s.m3total := rfl
@[simp] theorem State.start_tlsel (w : Word) (left : Nat) : (s.start w left).tlsel = s.tlsel := rfl
@[simp] theorem State.start_pixres (w : Word) (left : Nat) : (s.start w left).pixres = s.pixres := rfl
@[simp] theorem State.start_pixlen (w : Word) (left : Nat) : (s.start w left).pixlen = s.pixlen := rfl
@[simp] theorem State.start_frame (w : Word) (left : Nat) : (s.start w left).frame = s.frame := rfl
@[simp] theorem State.start_out (w : Word) (left : Nat) : (s.start w left).out = s.out := rfl
@[simp] theorem State.start_m3res (w : Word) (left : Nat) : (s.start w left).m3res = s.m3res := rfl
@[simp] theorem State.start_seq (w : Word) (left : Nat) : (s.start w left).seq = .running w left := rfl
@[simp] theorem State.start_rst (w : Word) (left : Nat) : (s.start w left).rst = s.rst := rfl
@[simp] theorem State.start_moves (w : Word) (left : Nat) : (s.start w left).moves = s.moves := rfl
@[simp] theorem State.start_port (w : Word) (left : Nat) : (s.start w left).port = s.port := rfl
@[simp] theorem State.start_draws (w : Word) (left : Nat) : (s.start w left).draws = s.draws := rfl

/-! `State.answer` -/
@[simp] theorem State.answer_params (r : Answer) : (s.answer r).params = s.params := rfl
@[simp] theorem State.answer_nframes (r : Answer) : (s.answer r).nframes = s.nframes := rfl
@[simp] theorem State.answer_cmd (r : Answer) : (s.answer r).cmd = s.cmd := rfl
@[simp] theorem State.answer_status (r : Answer) : (s.answer r).status = s.status := rfl
@[simp] theorem State.answer_doneIe (r : Answer) : (s.answer r).doneIe = s.doneIe := rfl
@[simp] theorem State.answer_errinfo (r : Answer) : (s.answer r).errinfo = s.errinfo := rfl
@[simp] theorem State.answer_totbits (r : Answer) : (s.answer r).totbits = s.totbits := rfl
@[simp] theorem State.answer_outcnt (r : Answer) : (s.answer r).outcnt = s.outcnt := rfl
@[simp] theorem State.answer_m3cnt (r : Answer) : (s.answer r).m3cnt = s.m3cnt := rfl
@[simp] theorem State.answer_m3total (r : Answer) : (s.answer r).m3total = s.m3total := rfl
@[simp] theorem State.answer_tlsel (r : Answer) : (s.answer r).tlsel = s.tlsel := rfl
@[simp] theorem State.answer_pixres (r : Answer) : (s.answer r).pixres = s.pixres := rfl
@[simp] theorem State.answer_pixlen (r : Answer) : (s.answer r).pixlen = s.pixlen := rfl
@[simp] theorem State.answer_frame (r : Answer) : (s.answer r).frame = s.frame := rfl
@[simp] theorem State.answer_out (r : Answer) : (s.answer r).out = s.out := rfl
@[simp] theorem State.answer_m3res (r : Answer) : (s.answer r).m3res = s.m3res := rfl
@[simp] theorem State.answer_seq (r : Answer) : (s.answer r).seq = s.seq := rfl
@[simp] theorem State.answer_rst (r : Answer) : (s.answer r).rst = s.rst := rfl
@[simp] theorem State.answer_moves (r : Answer) : (s.answer r).moves = s.moves := rfl
@[simp] theorem State.answer_port (r : Answer) : (s.answer r).port = some r := rfl
@[simp] theorem State.answer_draws (r : Answer) : (s.answer r).draws = s.draws := rfl

/-! `State.draw` -/
@[simp] theorem State.draw_params : s.draw.params = s.params := rfl
@[simp] theorem State.draw_nframes : s.draw.nframes = s.nframes := rfl
@[simp] theorem State.draw_cmd : s.draw.cmd = s.cmd := rfl
@[simp] theorem State.draw_status : s.draw.status = s.status := rfl
@[simp] theorem State.draw_doneIe : s.draw.doneIe = s.doneIe := rfl
@[simp] theorem State.draw_errinfo : s.draw.errinfo = s.errinfo := rfl
@[simp] theorem State.draw_totbits : s.draw.totbits = s.totbits := rfl
@[simp] theorem State.draw_outcnt : s.draw.outcnt = s.outcnt := rfl
@[simp] theorem State.draw_m3cnt : s.draw.m3cnt = s.m3cnt := rfl
@[simp] theorem State.draw_m3total : s.draw.m3total = s.m3total := rfl
@[simp] theorem State.draw_tlsel : s.draw.tlsel = s.tlsel := rfl
@[simp] theorem State.draw_pixres : s.draw.pixres = s.pixres := rfl
@[simp] theorem State.draw_pixlen : s.draw.pixlen = s.pixlen := rfl
@[simp] theorem State.draw_frame : s.draw.frame = s.frame := rfl
@[simp] theorem State.draw_out : s.draw.out = s.out := rfl
@[simp] theorem State.draw_m3res : s.draw.m3res = s.m3res := rfl
@[simp] theorem State.draw_seq : s.draw.seq = s.seq := rfl
@[simp] theorem State.draw_rst : s.draw.rst = s.rst := rfl
@[simp] theorem State.draw_moves : s.draw.moves = s.moves := rfl
@[simp] theorem State.draw_port : s.draw.port = s.port := rfl
@[simp] theorem State.draw_draws : s.draw.draws = s.draws + 1 := rfl

/-! `State.assertReset` -/
@[simp] theorem State.assertReset_params : s.assertReset.params = s.params := rfl
@[simp] theorem State.assertReset_nframes : s.assertReset.nframes = State.reset.nframes := rfl
@[simp] theorem State.assertReset_cmd : s.assertReset.cmd = State.reset.cmd := rfl
@[simp] theorem State.assertReset_status : s.assertReset.status = State.reset.status := rfl
@[simp] theorem State.assertReset_doneIe : s.assertReset.doneIe = State.reset.doneIe := rfl
@[simp] theorem State.assertReset_errinfo : s.assertReset.errinfo = State.reset.errinfo := rfl
@[simp] theorem State.assertReset_totbits : s.assertReset.totbits = State.reset.totbits := rfl
@[simp] theorem State.assertReset_outcnt : s.assertReset.outcnt = State.reset.outcnt := rfl
@[simp] theorem State.assertReset_m3cnt : s.assertReset.m3cnt = State.reset.m3cnt := rfl
@[simp] theorem State.assertReset_m3total : s.assertReset.m3total = State.reset.m3total := rfl
@[simp] theorem State.assertReset_tlsel : s.assertReset.tlsel = State.reset.tlsel := rfl
@[simp] theorem State.assertReset_pixres : s.assertReset.pixres = State.reset.pixres := rfl
@[simp] theorem State.assertReset_pixlen : s.assertReset.pixlen = State.reset.pixlen := rfl
@[simp] theorem State.assertReset_frame : s.assertReset.frame = State.reset.frame := rfl
@[simp] theorem State.assertReset_out : s.assertReset.out = State.reset.out := rfl
@[simp] theorem State.assertReset_m3res : s.assertReset.m3res = State.reset.m3res := rfl
@[simp] theorem State.assertReset_seq : s.assertReset.seq = State.reset.seq := rfl
@[simp] theorem State.assertReset_rst : s.assertReset.rst = true := rfl
@[simp] theorem State.assertReset_moves : s.assertReset.moves = s.moves := rfl
@[simp] theorem State.assertReset_port : s.assertReset.port = State.reset.port := rfl
@[simp] theorem State.assertReset_draws : s.assertReset.draws = s.draws + 1 := rfl

/-! `State.writePixels` -/
@[simp] theorem State.writePixels_params (ds : List Word) : (s.writePixels ds).params = s.params := rfl
@[simp] theorem State.writePixels_nframes (ds : List Word) : (s.writePixels ds).nframes = s.nframes := rfl
@[simp] theorem State.writePixels_cmd (ds : List Word) : (s.writePixels ds).cmd = s.cmd := rfl
@[simp] theorem State.writePixels_status (ds : List Word) : (s.writePixels ds).status = s.status := rfl
@[simp] theorem State.writePixels_doneIe (ds : List Word) : (s.writePixels ds).doneIe = s.doneIe := rfl
@[simp] theorem State.writePixels_errinfo (ds : List Word) : (s.writePixels ds).errinfo = s.errinfo := rfl
@[simp] theorem State.writePixels_totbits (ds : List Word) : (s.writePixels ds).totbits = s.totbits := rfl
@[simp] theorem State.writePixels_outcnt (ds : List Word) : (s.writePixels ds).outcnt = s.outcnt := rfl
@[simp] theorem State.writePixels_m3cnt (ds : List Word) : (s.writePixels ds).m3cnt = s.m3cnt := rfl
@[simp] theorem State.writePixels_m3total (ds : List Word) : (s.writePixels ds).m3total = s.m3total := rfl
@[simp] theorem State.writePixels_tlsel (ds : List Word) : (s.writePixels ds).tlsel = s.tlsel := rfl
@[simp] theorem State.writePixels_pixres (ds : List Word) : (s.writePixels ds).pixres = tabulate fun p => pixResOf (timeline ds p) := rfl
@[simp] theorem State.writePixels_pixlen (ds : List Word) : (s.writePixels ds).pixlen = tabulate fun p => pixLenOf (timeline ds p) := rfl
@[simp] theorem State.writePixels_frame (ds : List Word) : (s.writePixels ds).frame = s.frame := rfl
@[simp] theorem State.writePixels_out (ds : List Word) : (s.writePixels ds).out = s.out := rfl
@[simp] theorem State.writePixels_m3res (ds : List Word) : (s.writePixels ds).m3res = s.m3res := rfl
@[simp] theorem State.writePixels_seq (ds : List Word) : (s.writePixels ds).seq = s.seq := rfl
@[simp] theorem State.writePixels_rst (ds : List Word) : (s.writePixels ds).rst = s.rst := rfl
@[simp] theorem State.writePixels_moves (ds : List Word) : (s.writePixels ds).moves = s.moves := rfl
@[simp] theorem State.writePixels_port (ds : List Word) : (s.writePixels ds).port = s.port := rfl
@[simp] theorem State.writePixels_draws (ds : List Word) : (s.writePixels ds).draws = s.draws := rfl

/-! `State.clearResults` -/
@[simp] theorem State.clearResults_params : s.clearResults.params = s.params := rfl
@[simp] theorem State.clearResults_nframes : s.clearResults.nframes = s.nframes := rfl
@[simp] theorem State.clearResults_cmd : s.clearResults.cmd = s.cmd := rfl
@[simp] theorem State.clearResults_status : s.clearResults.status = s.status := rfl
@[simp] theorem State.clearResults_doneIe : s.clearResults.doneIe = s.doneIe := rfl
@[simp] theorem State.clearResults_errinfo : s.clearResults.errinfo = s.errinfo := rfl
@[simp] theorem State.clearResults_totbits : s.clearResults.totbits = 0 := rfl
@[simp] theorem State.clearResults_outcnt : s.clearResults.outcnt = 0 := rfl
@[simp] theorem State.clearResults_m3cnt : s.clearResults.m3cnt = 0 := rfl
@[simp] theorem State.clearResults_m3total : s.clearResults.m3total = 0 := rfl
@[simp] theorem State.clearResults_tlsel : s.clearResults.tlsel = s.tlsel := rfl
@[simp] theorem State.clearResults_pixres : s.clearResults.pixres = Vector.replicate 64 PixRes.zero := rfl
@[simp] theorem State.clearResults_pixlen : s.clearResults.pixlen = Vector.replicate 64 (Vector.replicate 16 0) := rfl
@[simp] theorem State.clearResults_frame : s.clearResults.frame = s.frame := rfl
@[simp] theorem State.clearResults_out : s.clearResults.out = s.out := rfl
@[simp] theorem State.clearResults_m3res : s.clearResults.m3res = s.m3res := rfl
@[simp] theorem State.clearResults_seq : s.clearResults.seq = s.seq := rfl
@[simp] theorem State.clearResults_rst : s.clearResults.rst = s.rst := rfl
@[simp] theorem State.clearResults_moves : s.clearResults.moves = s.moves := rfl
@[simp] theorem State.clearResults_port : s.clearResults.port = s.port := rfl
@[simp] theorem State.clearResults_draws : s.clearResults.draws = s.draws := rfl

/-! `State.serializeEmpty` -/
@[simp] theorem State.serializeEmpty_params : s.serializeEmpty.params = s.params := rfl
@[simp] theorem State.serializeEmpty_nframes : s.serializeEmpty.nframes = s.nframes := rfl
@[simp] theorem State.serializeEmpty_cmd : s.serializeEmpty.cmd = s.cmd := rfl
@[simp] theorem State.serializeEmpty_status : s.serializeEmpty.status = s.status := rfl
@[simp] theorem State.serializeEmpty_doneIe : s.serializeEmpty.doneIe = s.doneIe := rfl
@[simp] theorem State.serializeEmpty_errinfo : s.serializeEmpty.errinfo = s.errinfo := rfl
@[simp] theorem State.serializeEmpty_totbits : s.serializeEmpty.totbits = 0 := rfl
@[simp] theorem State.serializeEmpty_outcnt : s.serializeEmpty.outcnt = 1 := rfl
@[simp] theorem State.serializeEmpty_m3cnt : s.serializeEmpty.m3cnt = s.m3cnt := rfl
@[simp] theorem State.serializeEmpty_m3total : s.serializeEmpty.m3total = s.m3total := rfl
@[simp] theorem State.serializeEmpty_tlsel : s.serializeEmpty.tlsel = s.tlsel := rfl
@[simp] theorem State.serializeEmpty_pixres : s.serializeEmpty.pixres = s.pixres := rfl
@[simp] theorem State.serializeEmpty_pixlen : s.serializeEmpty.pixlen = s.pixlen := rfl
@[simp] theorem State.serializeEmpty_frame : s.serializeEmpty.frame = s.frame := rfl
@[simp] theorem State.serializeEmpty_out : s.serializeEmpty.out = s.out.write 0 0 := rfl
@[simp] theorem State.serializeEmpty_m3res : s.serializeEmpty.m3res = s.m3res := rfl
@[simp] theorem State.serializeEmpty_seq : s.serializeEmpty.seq = s.seq := rfl
@[simp] theorem State.serializeEmpty_rst : s.serializeEmpty.rst = s.rst := rfl
@[simp] theorem State.serializeEmpty_moves : s.serializeEmpty.moves = s.moves := rfl
@[simp] theorem State.serializeEmpty_port : s.serializeEmpty.port = s.port := rfl
@[simp] theorem State.serializeEmpty_draws : s.serializeEmpty.draws = s.draws := rfl

/-! `State.serializeNframesRange` -/
@[simp] theorem State.serializeNframesRange_params : s.serializeNframesRange.params = s.params := rfl
@[simp] theorem State.serializeNframesRange_nframes : s.serializeNframesRange.nframes = s.nframes := rfl
@[simp] theorem State.serializeNframesRange_cmd : s.serializeNframesRange.cmd = s.cmd := rfl
@[simp] theorem State.serializeNframesRange_status : s.serializeNframesRange.status = s.status := rfl
@[simp] theorem State.serializeNframesRange_doneIe : s.serializeNframesRange.doneIe = s.doneIe := rfl
@[simp] theorem State.serializeNframesRange_errinfo : s.serializeNframesRange.errinfo = s.errinfo := rfl
@[simp] theorem State.serializeNframesRange_totbits : s.serializeNframesRange.totbits = s.totbits := rfl
@[simp] theorem State.serializeNframesRange_outcnt : s.serializeNframesRange.outcnt = if s.params.nframesRangeZeroes then 0 else s.outcnt :=
  rfl
@[simp] theorem State.serializeNframesRange_m3cnt : s.serializeNframesRange.m3cnt = s.m3cnt := rfl
@[simp] theorem State.serializeNframesRange_m3total : s.serializeNframesRange.m3total = s.m3total := rfl
@[simp] theorem State.serializeNframesRange_tlsel : s.serializeNframesRange.tlsel = s.tlsel := rfl
@[simp] theorem State.serializeNframesRange_pixres : s.serializeNframesRange.pixres = s.pixres := rfl
@[simp] theorem State.serializeNframesRange_pixlen : s.serializeNframesRange.pixlen = s.pixlen := rfl
@[simp] theorem State.serializeNframesRange_frame : s.serializeNframesRange.frame = s.frame := rfl
@[simp] theorem State.serializeNframesRange_out : s.serializeNframesRange.out = if s.params.nframesRangeZeroes then [] else s.out :=
  rfl
@[simp] theorem State.serializeNframesRange_m3res : s.serializeNframesRange.m3res = s.m3res := rfl
@[simp] theorem State.serializeNframesRange_seq : s.serializeNframesRange.seq = s.seq := rfl
@[simp] theorem State.serializeNframesRange_rst : s.serializeNframesRange.rst = s.rst := rfl
@[simp] theorem State.serializeNframesRange_moves : s.serializeNframesRange.moves = s.moves := rfl
@[simp] theorem State.serializeNframesRange_port : s.serializeNframesRange.port = s.port := rfl
@[simp] theorem State.serializeNframesRange_draws : s.serializeNframesRange.draws = s.draws := rfl

/-! `State.serializeBRange` -/
@[simp] theorem State.serializeBRange_params : s.serializeBRange.params = s.params := rfl
@[simp] theorem State.serializeBRange_nframes : s.serializeBRange.nframes = s.nframes := rfl
@[simp] theorem State.serializeBRange_cmd : s.serializeBRange.cmd = s.cmd := rfl
@[simp] theorem State.serializeBRange_status : s.serializeBRange.status = s.status := rfl
@[simp] theorem State.serializeBRange_doneIe : s.serializeBRange.doneIe = s.doneIe := rfl
@[simp] theorem State.serializeBRange_errinfo : s.serializeBRange.errinfo = s.errinfo := rfl
@[simp] theorem State.serializeBRange_totbits : s.serializeBRange.totbits = 0 := rfl
@[simp] theorem State.serializeBRange_outcnt : s.serializeBRange.outcnt = 0 := rfl
@[simp] theorem State.serializeBRange_m3cnt : s.serializeBRange.m3cnt = s.m3cnt := rfl
@[simp] theorem State.serializeBRange_m3total : s.serializeBRange.m3total = s.m3total := rfl
@[simp] theorem State.serializeBRange_tlsel : s.serializeBRange.tlsel = s.tlsel := rfl
@[simp] theorem State.serializeBRange_pixres : s.serializeBRange.pixres = s.pixres := rfl
@[simp] theorem State.serializeBRange_pixlen : s.serializeBRange.pixlen = s.pixlen := rfl
@[simp] theorem State.serializeBRange_frame : s.serializeBRange.frame = s.frame := rfl
@[simp] theorem State.serializeBRange_out : s.serializeBRange.out = [] := rfl
@[simp] theorem State.serializeBRange_m3res : s.serializeBRange.m3res = s.m3res := rfl
@[simp] theorem State.serializeBRange_seq : s.serializeBRange.seq = s.seq := rfl
@[simp] theorem State.serializeBRange_rst : s.serializeBRange.rst = s.rst := rfl
@[simp] theorem State.serializeBRange_moves : s.serializeBRange.moves = s.moves := rfl
@[simp] theorem State.serializeBRange_port : s.serializeBRange.port = s.port := rfl
@[simp] theorem State.serializeBRange_draws : s.serializeBRange.draws = s.draws := rfl

/-! `State.serializeOverflow` -/
@[simp] theorem State.serializeOverflow_params (n : Nat) : (s.serializeOverflow n).params = s.params := rfl
@[simp] theorem State.serializeOverflow_nframes (n : Nat) : (s.serializeOverflow n).nframes = s.nframes := rfl
@[simp] theorem State.serializeOverflow_cmd (n : Nat) : (s.serializeOverflow n).cmd = s.cmd := rfl
@[simp] theorem State.serializeOverflow_status (n : Nat) : (s.serializeOverflow n).status = s.status := rfl
@[simp] theorem State.serializeOverflow_doneIe (n : Nat) : (s.serializeOverflow n).doneIe = s.doneIe := rfl
@[simp] theorem State.serializeOverflow_errinfo (n : Nat) : (s.serializeOverflow n).errinfo = s.errinfo := rfl
@[simp] theorem State.serializeOverflow_totbits (n : Nat) : (s.serializeOverflow n).totbits = BitVec.ofNat 32 n := rfl
@[simp] theorem State.serializeOverflow_outcnt (n : Nat) : (s.serializeOverflow n).outcnt = 0 := rfl
@[simp] theorem State.serializeOverflow_m3cnt (n : Nat) : (s.serializeOverflow n).m3cnt = s.m3cnt := rfl
@[simp] theorem State.serializeOverflow_m3total (n : Nat) : (s.serializeOverflow n).m3total = s.m3total := rfl
@[simp] theorem State.serializeOverflow_tlsel (n : Nat) : (s.serializeOverflow n).tlsel = s.tlsel := rfl
@[simp] theorem State.serializeOverflow_pixres (n : Nat) : (s.serializeOverflow n).pixres = s.pixres := rfl
@[simp] theorem State.serializeOverflow_pixlen (n : Nat) : (s.serializeOverflow n).pixlen = s.pixlen := rfl
@[simp] theorem State.serializeOverflow_frame (n : Nat) : (s.serializeOverflow n).frame = s.frame := rfl
@[simp] theorem State.serializeOverflow_out (n : Nat) : (s.serializeOverflow n).out = [] := rfl
@[simp] theorem State.serializeOverflow_m3res (n : Nat) : (s.serializeOverflow n).m3res = s.m3res := rfl
@[simp] theorem State.serializeOverflow_seq (n : Nat) : (s.serializeOverflow n).seq = s.seq := rfl
@[simp] theorem State.serializeOverflow_rst (n : Nat) : (s.serializeOverflow n).rst = s.rst := rfl
@[simp] theorem State.serializeOverflow_moves (n : Nat) : (s.serializeOverflow n).moves = s.moves := rfl
@[simp] theorem State.serializeOverflow_port (n : Nat) : (s.serializeOverflow n).port = s.port := rfl
@[simp] theorem State.serializeOverflow_draws (n : Nat) : (s.serializeOverflow n).draws = s.draws := rfl

/-! `State.serializeOutput` -/
@[simp] theorem State.serializeOutput_params (v n : Nat) : (s.serializeOutput v n).params = s.params := rfl
@[simp] theorem State.serializeOutput_nframes (v n : Nat) : (s.serializeOutput v n).nframes = s.nframes := rfl
@[simp] theorem State.serializeOutput_cmd (v n : Nat) : (s.serializeOutput v n).cmd = s.cmd := rfl
@[simp] theorem State.serializeOutput_status (v n : Nat) : (s.serializeOutput v n).status = s.status := rfl
@[simp] theorem State.serializeOutput_doneIe (v n : Nat) : (s.serializeOutput v n).doneIe = s.doneIe := rfl
@[simp] theorem State.serializeOutput_errinfo (v n : Nat) : (s.serializeOutput v n).errinfo = s.errinfo := rfl
@[simp] theorem State.serializeOutput_totbits (v n : Nat) : (s.serializeOutput v n).totbits = BitVec.ofNat 32 n := rfl
@[simp] theorem State.serializeOutput_outcnt (v n : Nat) : (s.serializeOutput v n).outcnt = BitVec.ofNat 32 (chunks n + 1) := rfl
@[simp] theorem State.serializeOutput_m3cnt (v n : Nat) : (s.serializeOutput v n).m3cnt = s.m3cnt := rfl
@[simp] theorem State.serializeOutput_m3total (v n : Nat) : (s.serializeOutput v n).m3total = s.m3total := rfl
@[simp] theorem State.serializeOutput_tlsel (v n : Nat) : (s.serializeOutput v n).tlsel = s.tlsel := rfl
@[simp] theorem State.serializeOutput_pixres (v n : Nat) : (s.serializeOutput v n).pixres = s.pixres := rfl
@[simp] theorem State.serializeOutput_pixlen (v n : Nat) : (s.serializeOutput v n).pixlen = s.pixlen := rfl
@[simp] theorem State.serializeOutput_frame (v n : Nat) : (s.serializeOutput v n).frame = s.frame := rfl
@[simp] theorem State.serializeOutput_out (v n : Nat) : (s.serializeOutput v n).out = s.out.writeFrom 0 (outWords v n) := rfl
@[simp] theorem State.serializeOutput_m3res (v n : Nat) : (s.serializeOutput v n).m3res = s.m3res := rfl
@[simp] theorem State.serializeOutput_seq (v n : Nat) : (s.serializeOutput v n).seq = s.seq := rfl
@[simp] theorem State.serializeOutput_rst (v n : Nat) : (s.serializeOutput v n).rst = s.rst := rfl
@[simp] theorem State.serializeOutput_moves (v n : Nat) : (s.serializeOutput v n).moves = s.moves := rfl
@[simp] theorem State.serializeOutput_port (v n : Nat) : (s.serializeOutput v n).port = s.port := rfl
@[simp] theorem State.serializeOutput_draws (v n : Nat) : (s.serializeOutput v n).draws = s.draws := rfl

/-! `State.spiralNframesRange` -/
@[simp] theorem State.spiralNframesRange_params : s.spiralNframesRange.params = s.params := rfl
@[simp] theorem State.spiralNframesRange_nframes : s.spiralNframesRange.nframes = s.nframes := rfl
@[simp] theorem State.spiralNframesRange_cmd : s.spiralNframesRange.cmd = s.cmd := rfl
@[simp] theorem State.spiralNframesRange_status : s.spiralNframesRange.status = s.status := rfl
@[simp] theorem State.spiralNframesRange_doneIe : s.spiralNframesRange.doneIe = s.doneIe := rfl
@[simp] theorem State.spiralNframesRange_errinfo : s.spiralNframesRange.errinfo = s.errinfo := rfl
@[simp] theorem State.spiralNframesRange_totbits : s.spiralNframesRange.totbits = s.totbits := rfl
@[simp] theorem State.spiralNframesRange_outcnt : s.spiralNframesRange.outcnt = s.outcnt := rfl
@[simp] theorem State.spiralNframesRange_m3cnt : s.spiralNframesRange.m3cnt = if s.params.nframesRangeZeroes then 0 else s.m3cnt :=
  rfl
@[simp] theorem State.spiralNframesRange_m3total : s.spiralNframesRange.m3total = s.m3total := rfl
@[simp] theorem State.spiralNframesRange_tlsel : s.spiralNframesRange.tlsel = s.tlsel := rfl
@[simp] theorem State.spiralNframesRange_pixres : s.spiralNframesRange.pixres = s.pixres := rfl
@[simp] theorem State.spiralNframesRange_pixlen : s.spiralNframesRange.pixlen = s.pixlen := rfl
@[simp] theorem State.spiralNframesRange_frame : s.spiralNframesRange.frame = s.frame := rfl
@[simp] theorem State.spiralNframesRange_out : s.spiralNframesRange.out = s.out := rfl
@[simp] theorem State.spiralNframesRange_m3res : s.spiralNframesRange.m3res = if s.params.nframesRangeZeroes then [] else s.m3res :=
  rfl
@[simp] theorem State.spiralNframesRange_seq : s.spiralNframesRange.seq = s.seq := rfl
@[simp] theorem State.spiralNframesRange_rst : s.spiralNframesRange.rst = s.rst := rfl
@[simp] theorem State.spiralNframesRange_moves : s.spiralNframesRange.moves = s.moves := rfl
@[simp] theorem State.spiralNframesRange_port : s.spiralNframesRange.port = s.port := rfl
@[simp] theorem State.spiralNframesRange_draws : s.spiralNframesRange.draws = s.draws := rfl

/-! `State.spiralBRange` -/
@[simp] theorem State.spiralBRange_params : s.spiralBRange.params = s.params := rfl
@[simp] theorem State.spiralBRange_nframes : s.spiralBRange.nframes = s.nframes := rfl
@[simp] theorem State.spiralBRange_cmd : s.spiralBRange.cmd = s.cmd := rfl
@[simp] theorem State.spiralBRange_status : s.spiralBRange.status = s.status := rfl
@[simp] theorem State.spiralBRange_doneIe : s.spiralBRange.doneIe = s.doneIe := rfl
@[simp] theorem State.spiralBRange_errinfo : s.spiralBRange.errinfo = s.errinfo := rfl
@[simp] theorem State.spiralBRange_totbits : s.spiralBRange.totbits = s.totbits := rfl
@[simp] theorem State.spiralBRange_outcnt : s.spiralBRange.outcnt = s.outcnt := rfl
@[simp] theorem State.spiralBRange_m3cnt : s.spiralBRange.m3cnt = 0 := rfl
@[simp] theorem State.spiralBRange_m3total : s.spiralBRange.m3total = 0 := rfl
@[simp] theorem State.spiralBRange_tlsel : s.spiralBRange.tlsel = s.tlsel := rfl
@[simp] theorem State.spiralBRange_pixres : s.spiralBRange.pixres = s.pixres := rfl
@[simp] theorem State.spiralBRange_pixlen : s.spiralBRange.pixlen = s.pixlen := rfl
@[simp] theorem State.spiralBRange_frame : s.spiralBRange.frame = s.frame := rfl
@[simp] theorem State.spiralBRange_out : s.spiralBRange.out = s.out := rfl
@[simp] theorem State.spiralBRange_m3res : s.spiralBRange.m3res = [] := rfl
@[simp] theorem State.spiralBRange_seq : s.spiralBRange.seq = s.seq := rfl
@[simp] theorem State.spiralBRange_rst : s.spiralBRange.rst = s.rst := rfl
@[simp] theorem State.spiralBRange_moves : s.spiralBRange.moves = s.moves := rfl
@[simp] theorem State.spiralBRange_port : s.spiralBRange.port = s.port := rfl
@[simp] theorem State.spiralBRange_draws : s.spiralBRange.draws = s.draws := rfl

/-! `State.spiralOutput` -/
@[simp] theorem State.spiralOutput_params (ms : List Word) : (s.spiralOutput ms).params = s.params := rfl
@[simp] theorem State.spiralOutput_nframes (ms : List Word) : (s.spiralOutput ms).nframes = s.nframes := rfl
@[simp] theorem State.spiralOutput_cmd (ms : List Word) : (s.spiralOutput ms).cmd = s.cmd := rfl
@[simp] theorem State.spiralOutput_status (ms : List Word) : (s.spiralOutput ms).status = s.status := rfl
@[simp] theorem State.spiralOutput_doneIe (ms : List Word) : (s.spiralOutput ms).doneIe = s.doneIe := rfl
@[simp] theorem State.spiralOutput_errinfo (ms : List Word) : (s.spiralOutput ms).errinfo = s.errinfo := rfl
@[simp] theorem State.spiralOutput_totbits (ms : List Word) : (s.spiralOutput ms).totbits = s.totbits := rfl
@[simp] theorem State.spiralOutput_outcnt (ms : List Word) : (s.spiralOutput ms).outcnt = s.outcnt := rfl
@[simp] theorem State.spiralOutput_m3cnt (ms : List Word) : (s.spiralOutput ms).m3cnt = BitVec.ofNat 32 ms.length := rfl
@[simp] theorem State.spiralOutput_m3total (ms : List Word) : (s.spiralOutput ms).m3total = BitVec.ofNat 32 (m3Total s.params ms) := rfl
@[simp] theorem State.spiralOutput_tlsel (ms : List Word) : (s.spiralOutput ms).tlsel = s.tlsel := rfl
@[simp] theorem State.spiralOutput_pixres (ms : List Word) : (s.spiralOutput ms).pixres = s.pixres := rfl
@[simp] theorem State.spiralOutput_pixlen (ms : List Word) : (s.spiralOutput ms).pixlen = s.pixlen := rfl
@[simp] theorem State.spiralOutput_frame (ms : List Word) : (s.spiralOutput ms).frame = s.frame := rfl
@[simp] theorem State.spiralOutput_out (ms : List Word) : (s.spiralOutput ms).out = s.out := rfl
@[simp] theorem State.spiralOutput_m3res (ms : List Word) : (s.spiralOutput ms).m3res = s.m3res.writeFrom 0 (m3Words s.params ms) := rfl
@[simp] theorem State.spiralOutput_seq (ms : List Word) : (s.spiralOutput ms).seq = s.seq := rfl
@[simp] theorem State.spiralOutput_rst (ms : List Word) : (s.spiralOutput ms).rst = s.rst := rfl
@[simp] theorem State.spiralOutput_moves (ms : List Word) : (s.spiralOutput ms).moves = s.moves := rfl
@[simp] theorem State.spiralOutput_port (ms : List Word) : (s.spiralOutput ms).port = s.port := rfl
@[simp] theorem State.spiralOutput_draws (ms : List Word) : (s.spiralOutput ms).draws = s.draws := rfl

/-! `State.withNframes` -/
@[simp] theorem State.withNframes_params (v : BitVec 32) : (s.withNframes v).params = s.params := rfl
@[simp] theorem State.withNframes_nframes (v : BitVec 32) : (s.withNframes v).nframes = v := rfl
@[simp] theorem State.withNframes_cmd (v : BitVec 32) : (s.withNframes v).cmd = s.cmd := rfl
@[simp] theorem State.withNframes_status (v : BitVec 32) : (s.withNframes v).status = s.status := rfl
@[simp] theorem State.withNframes_doneIe (v : BitVec 32) : (s.withNframes v).doneIe = s.doneIe := rfl
@[simp] theorem State.withNframes_errinfo (v : BitVec 32) : (s.withNframes v).errinfo = s.errinfo := rfl
@[simp] theorem State.withNframes_totbits (v : BitVec 32) : (s.withNframes v).totbits = s.totbits := rfl
@[simp] theorem State.withNframes_outcnt (v : BitVec 32) : (s.withNframes v).outcnt = s.outcnt := rfl
@[simp] theorem State.withNframes_m3cnt (v : BitVec 32) : (s.withNframes v).m3cnt = s.m3cnt := rfl
@[simp] theorem State.withNframes_m3total (v : BitVec 32) : (s.withNframes v).m3total = s.m3total := rfl
@[simp] theorem State.withNframes_tlsel (v : BitVec 32) : (s.withNframes v).tlsel = s.tlsel := rfl
@[simp] theorem State.withNframes_pixres (v : BitVec 32) : (s.withNframes v).pixres = s.pixres := rfl
@[simp] theorem State.withNframes_pixlen (v : BitVec 32) : (s.withNframes v).pixlen = s.pixlen := rfl
@[simp] theorem State.withNframes_frame (v : BitVec 32) : (s.withNframes v).frame = s.frame := rfl
@[simp] theorem State.withNframes_out (v : BitVec 32) : (s.withNframes v).out = s.out := rfl
@[simp] theorem State.withNframes_m3res (v : BitVec 32) : (s.withNframes v).m3res = s.m3res := rfl
@[simp] theorem State.withNframes_seq (v : BitVec 32) : (s.withNframes v).seq = s.seq := rfl
@[simp] theorem State.withNframes_rst (v : BitVec 32) : (s.withNframes v).rst = s.rst := rfl
@[simp] theorem State.withNframes_moves (v : BitVec 32) : (s.withNframes v).moves = s.moves := rfl
@[simp] theorem State.withNframes_port (v : BitVec 32) : (s.withNframes v).port = s.port := rfl
@[simp] theorem State.withNframes_draws (v : BitVec 32) : (s.withNframes v).draws = s.draws := rfl

/-! `State.withStatus` -/
@[simp] theorem State.withStatus_params (v : Status) : (s.withStatus v).params = s.params := rfl
@[simp] theorem State.withStatus_nframes (v : Status) : (s.withStatus v).nframes = s.nframes := rfl
@[simp] theorem State.withStatus_cmd (v : Status) : (s.withStatus v).cmd = s.cmd := rfl
@[simp] theorem State.withStatus_status (v : Status) : (s.withStatus v).status = v := rfl
@[simp] theorem State.withStatus_doneIe (v : Status) : (s.withStatus v).doneIe = s.doneIe := rfl
@[simp] theorem State.withStatus_errinfo (v : Status) : (s.withStatus v).errinfo = s.errinfo := rfl
@[simp] theorem State.withStatus_totbits (v : Status) : (s.withStatus v).totbits = s.totbits := rfl
@[simp] theorem State.withStatus_outcnt (v : Status) : (s.withStatus v).outcnt = s.outcnt := rfl
@[simp] theorem State.withStatus_m3cnt (v : Status) : (s.withStatus v).m3cnt = s.m3cnt := rfl
@[simp] theorem State.withStatus_m3total (v : Status) : (s.withStatus v).m3total = s.m3total := rfl
@[simp] theorem State.withStatus_tlsel (v : Status) : (s.withStatus v).tlsel = s.tlsel := rfl
@[simp] theorem State.withStatus_pixres (v : Status) : (s.withStatus v).pixres = s.pixres := rfl
@[simp] theorem State.withStatus_pixlen (v : Status) : (s.withStatus v).pixlen = s.pixlen := rfl
@[simp] theorem State.withStatus_frame (v : Status) : (s.withStatus v).frame = s.frame := rfl
@[simp] theorem State.withStatus_out (v : Status) : (s.withStatus v).out = s.out := rfl
@[simp] theorem State.withStatus_m3res (v : Status) : (s.withStatus v).m3res = s.m3res := rfl
@[simp] theorem State.withStatus_seq (v : Status) : (s.withStatus v).seq = s.seq := rfl
@[simp] theorem State.withStatus_rst (v : Status) : (s.withStatus v).rst = s.rst := rfl
@[simp] theorem State.withStatus_moves (v : Status) : (s.withStatus v).moves = s.moves := rfl
@[simp] theorem State.withStatus_port (v : Status) : (s.withStatus v).port = s.port := rfl
@[simp] theorem State.withStatus_draws (v : Status) : (s.withStatus v).draws = s.draws := rfl

/-! `State.withDoneIe` -/
@[simp] theorem State.withDoneIe_params (v : Bool) : (s.withDoneIe v).params = s.params := rfl
@[simp] theorem State.withDoneIe_nframes (v : Bool) : (s.withDoneIe v).nframes = s.nframes := rfl
@[simp] theorem State.withDoneIe_cmd (v : Bool) : (s.withDoneIe v).cmd = s.cmd := rfl
@[simp] theorem State.withDoneIe_status (v : Bool) : (s.withDoneIe v).status = s.status := rfl
@[simp] theorem State.withDoneIe_doneIe (v : Bool) : (s.withDoneIe v).doneIe = v := rfl
@[simp] theorem State.withDoneIe_errinfo (v : Bool) : (s.withDoneIe v).errinfo = s.errinfo := rfl
@[simp] theorem State.withDoneIe_totbits (v : Bool) : (s.withDoneIe v).totbits = s.totbits := rfl
@[simp] theorem State.withDoneIe_outcnt (v : Bool) : (s.withDoneIe v).outcnt = s.outcnt := rfl
@[simp] theorem State.withDoneIe_m3cnt (v : Bool) : (s.withDoneIe v).m3cnt = s.m3cnt := rfl
@[simp] theorem State.withDoneIe_m3total (v : Bool) : (s.withDoneIe v).m3total = s.m3total := rfl
@[simp] theorem State.withDoneIe_tlsel (v : Bool) : (s.withDoneIe v).tlsel = s.tlsel := rfl
@[simp] theorem State.withDoneIe_pixres (v : Bool) : (s.withDoneIe v).pixres = s.pixres := rfl
@[simp] theorem State.withDoneIe_pixlen (v : Bool) : (s.withDoneIe v).pixlen = s.pixlen := rfl
@[simp] theorem State.withDoneIe_frame (v : Bool) : (s.withDoneIe v).frame = s.frame := rfl
@[simp] theorem State.withDoneIe_out (v : Bool) : (s.withDoneIe v).out = s.out := rfl
@[simp] theorem State.withDoneIe_m3res (v : Bool) : (s.withDoneIe v).m3res = s.m3res := rfl
@[simp] theorem State.withDoneIe_seq (v : Bool) : (s.withDoneIe v).seq = s.seq := rfl
@[simp] theorem State.withDoneIe_rst (v : Bool) : (s.withDoneIe v).rst = s.rst := rfl
@[simp] theorem State.withDoneIe_moves (v : Bool) : (s.withDoneIe v).moves = s.moves := rfl
@[simp] theorem State.withDoneIe_port (v : Bool) : (s.withDoneIe v).port = s.port := rfl
@[simp] theorem State.withDoneIe_draws (v : Bool) : (s.withDoneIe v).draws = s.draws := rfl

/-! `State.withTlsel` -/
@[simp] theorem State.withTlsel_params (v : TlSel) : (s.withTlsel v).params = s.params := rfl
@[simp] theorem State.withTlsel_nframes (v : TlSel) : (s.withTlsel v).nframes = s.nframes := rfl
@[simp] theorem State.withTlsel_cmd (v : TlSel) : (s.withTlsel v).cmd = s.cmd := rfl
@[simp] theorem State.withTlsel_status (v : TlSel) : (s.withTlsel v).status = s.status := rfl
@[simp] theorem State.withTlsel_doneIe (v : TlSel) : (s.withTlsel v).doneIe = s.doneIe := rfl
@[simp] theorem State.withTlsel_errinfo (v : TlSel) : (s.withTlsel v).errinfo = s.errinfo := rfl
@[simp] theorem State.withTlsel_totbits (v : TlSel) : (s.withTlsel v).totbits = s.totbits := rfl
@[simp] theorem State.withTlsel_outcnt (v : TlSel) : (s.withTlsel v).outcnt = s.outcnt := rfl
@[simp] theorem State.withTlsel_m3cnt (v : TlSel) : (s.withTlsel v).m3cnt = s.m3cnt := rfl
@[simp] theorem State.withTlsel_m3total (v : TlSel) : (s.withTlsel v).m3total = s.m3total := rfl
@[simp] theorem State.withTlsel_tlsel (v : TlSel) : (s.withTlsel v).tlsel = v := rfl
@[simp] theorem State.withTlsel_pixres (v : TlSel) : (s.withTlsel v).pixres = s.pixres := rfl
@[simp] theorem State.withTlsel_pixlen (v : TlSel) : (s.withTlsel v).pixlen = s.pixlen := rfl
@[simp] theorem State.withTlsel_frame (v : TlSel) : (s.withTlsel v).frame = s.frame := rfl
@[simp] theorem State.withTlsel_out (v : TlSel) : (s.withTlsel v).out = s.out := rfl
@[simp] theorem State.withTlsel_m3res (v : TlSel) : (s.withTlsel v).m3res = s.m3res := rfl
@[simp] theorem State.withTlsel_seq (v : TlSel) : (s.withTlsel v).seq = s.seq := rfl
@[simp] theorem State.withTlsel_rst (v : TlSel) : (s.withTlsel v).rst = s.rst := rfl
@[simp] theorem State.withTlsel_moves (v : TlSel) : (s.withTlsel v).moves = s.moves := rfl
@[simp] theorem State.withTlsel_port (v : TlSel) : (s.withTlsel v).port = s.port := rfl
@[simp] theorem State.withTlsel_draws (v : TlSel) : (s.withTlsel v).draws = s.draws := rfl

/-! `State.withFrame` -/
@[simp] theorem State.withFrame_params (v : Memory) : (s.withFrame v).params = s.params := rfl
@[simp] theorem State.withFrame_nframes (v : Memory) : (s.withFrame v).nframes = s.nframes := rfl
@[simp] theorem State.withFrame_cmd (v : Memory) : (s.withFrame v).cmd = s.cmd := rfl
@[simp] theorem State.withFrame_status (v : Memory) : (s.withFrame v).status = s.status := rfl
@[simp] theorem State.withFrame_doneIe (v : Memory) : (s.withFrame v).doneIe = s.doneIe := rfl
@[simp] theorem State.withFrame_errinfo (v : Memory) : (s.withFrame v).errinfo = s.errinfo := rfl
@[simp] theorem State.withFrame_totbits (v : Memory) : (s.withFrame v).totbits = s.totbits := rfl
@[simp] theorem State.withFrame_outcnt (v : Memory) : (s.withFrame v).outcnt = s.outcnt := rfl
@[simp] theorem State.withFrame_m3cnt (v : Memory) : (s.withFrame v).m3cnt = s.m3cnt := rfl
@[simp] theorem State.withFrame_m3total (v : Memory) : (s.withFrame v).m3total = s.m3total := rfl
@[simp] theorem State.withFrame_tlsel (v : Memory) : (s.withFrame v).tlsel = s.tlsel := rfl
@[simp] theorem State.withFrame_pixres (v : Memory) : (s.withFrame v).pixres = s.pixres := rfl
@[simp] theorem State.withFrame_pixlen (v : Memory) : (s.withFrame v).pixlen = s.pixlen := rfl
@[simp] theorem State.withFrame_frame (v : Memory) : (s.withFrame v).frame = v := rfl
@[simp] theorem State.withFrame_out (v : Memory) : (s.withFrame v).out = s.out := rfl
@[simp] theorem State.withFrame_m3res (v : Memory) : (s.withFrame v).m3res = s.m3res := rfl
@[simp] theorem State.withFrame_seq (v : Memory) : (s.withFrame v).seq = s.seq := rfl
@[simp] theorem State.withFrame_rst (v : Memory) : (s.withFrame v).rst = s.rst := rfl
@[simp] theorem State.withFrame_moves (v : Memory) : (s.withFrame v).moves = s.moves := rfl
@[simp] theorem State.withFrame_port (v : Memory) : (s.withFrame v).port = s.port := rfl
@[simp] theorem State.withFrame_draws (v : Memory) : (s.withFrame v).draws = s.draws := rfl

/-! `State.withSeq` -/
@[simp] theorem State.withSeq_params (v : Sequencer) : (s.withSeq v).params = s.params := rfl
@[simp] theorem State.withSeq_nframes (v : Sequencer) : (s.withSeq v).nframes = s.nframes := rfl
@[simp] theorem State.withSeq_cmd (v : Sequencer) : (s.withSeq v).cmd = s.cmd := rfl
@[simp] theorem State.withSeq_status (v : Sequencer) : (s.withSeq v).status = s.status := rfl
@[simp] theorem State.withSeq_doneIe (v : Sequencer) : (s.withSeq v).doneIe = s.doneIe := rfl
@[simp] theorem State.withSeq_errinfo (v : Sequencer) : (s.withSeq v).errinfo = s.errinfo := rfl
@[simp] theorem State.withSeq_totbits (v : Sequencer) : (s.withSeq v).totbits = s.totbits := rfl
@[simp] theorem State.withSeq_outcnt (v : Sequencer) : (s.withSeq v).outcnt = s.outcnt := rfl
@[simp] theorem State.withSeq_m3cnt (v : Sequencer) : (s.withSeq v).m3cnt = s.m3cnt := rfl
@[simp] theorem State.withSeq_m3total (v : Sequencer) : (s.withSeq v).m3total = s.m3total := rfl
@[simp] theorem State.withSeq_tlsel (v : Sequencer) : (s.withSeq v).tlsel = s.tlsel := rfl
@[simp] theorem State.withSeq_pixres (v : Sequencer) : (s.withSeq v).pixres = s.pixres := rfl
@[simp] theorem State.withSeq_pixlen (v : Sequencer) : (s.withSeq v).pixlen = s.pixlen := rfl
@[simp] theorem State.withSeq_frame (v : Sequencer) : (s.withSeq v).frame = s.frame := rfl
@[simp] theorem State.withSeq_out (v : Sequencer) : (s.withSeq v).out = s.out := rfl
@[simp] theorem State.withSeq_m3res (v : Sequencer) : (s.withSeq v).m3res = s.m3res := rfl
@[simp] theorem State.withSeq_seq (v : Sequencer) : (s.withSeq v).seq = v := rfl
@[simp] theorem State.withSeq_rst (v : Sequencer) : (s.withSeq v).rst = s.rst := rfl
@[simp] theorem State.withSeq_moves (v : Sequencer) : (s.withSeq v).moves = s.moves := rfl
@[simp] theorem State.withSeq_port (v : Sequencer) : (s.withSeq v).port = s.port := rfl
@[simp] theorem State.withSeq_draws (v : Sequencer) : (s.withSeq v).draws = s.draws := rfl

/-! `State.withRst` -/
@[simp] theorem State.withRst_params (v : Bool) : (s.withRst v).params = s.params := rfl
@[simp] theorem State.withRst_nframes (v : Bool) : (s.withRst v).nframes = s.nframes := rfl
@[simp] theorem State.withRst_cmd (v : Bool) : (s.withRst v).cmd = s.cmd := rfl
@[simp] theorem State.withRst_status (v : Bool) : (s.withRst v).status = s.status := rfl
@[simp] theorem State.withRst_doneIe (v : Bool) : (s.withRst v).doneIe = s.doneIe := rfl
@[simp] theorem State.withRst_errinfo (v : Bool) : (s.withRst v).errinfo = s.errinfo := rfl
@[simp] theorem State.withRst_totbits (v : Bool) : (s.withRst v).totbits = s.totbits := rfl
@[simp] theorem State.withRst_outcnt (v : Bool) : (s.withRst v).outcnt = s.outcnt := rfl
@[simp] theorem State.withRst_m3cnt (v : Bool) : (s.withRst v).m3cnt = s.m3cnt := rfl
@[simp] theorem State.withRst_m3total (v : Bool) : (s.withRst v).m3total = s.m3total := rfl
@[simp] theorem State.withRst_tlsel (v : Bool) : (s.withRst v).tlsel = s.tlsel := rfl
@[simp] theorem State.withRst_pixres (v : Bool) : (s.withRst v).pixres = s.pixres := rfl
@[simp] theorem State.withRst_pixlen (v : Bool) : (s.withRst v).pixlen = s.pixlen := rfl
@[simp] theorem State.withRst_frame (v : Bool) : (s.withRst v).frame = s.frame := rfl
@[simp] theorem State.withRst_out (v : Bool) : (s.withRst v).out = s.out := rfl
@[simp] theorem State.withRst_m3res (v : Bool) : (s.withRst v).m3res = s.m3res := rfl
@[simp] theorem State.withRst_seq (v : Bool) : (s.withRst v).seq = s.seq := rfl
@[simp] theorem State.withRst_rst (v : Bool) : (s.withRst v).rst = v := rfl
@[simp] theorem State.withRst_moves (v : Bool) : (s.withRst v).moves = s.moves := rfl
@[simp] theorem State.withRst_port (v : Bool) : (s.withRst v).port = s.port := rfl
@[simp] theorem State.withRst_draws (v : Bool) : (s.withRst v).draws = s.draws := rfl

/-! `State.withMoves` -/
@[simp] theorem State.withMoves_params (v : List Move) : (s.withMoves v).params = s.params := rfl
@[simp] theorem State.withMoves_nframes (v : List Move) : (s.withMoves v).nframes = s.nframes := rfl
@[simp] theorem State.withMoves_cmd (v : List Move) : (s.withMoves v).cmd = s.cmd := rfl
@[simp] theorem State.withMoves_status (v : List Move) : (s.withMoves v).status = s.status := rfl
@[simp] theorem State.withMoves_doneIe (v : List Move) : (s.withMoves v).doneIe = s.doneIe := rfl
@[simp] theorem State.withMoves_errinfo (v : List Move) : (s.withMoves v).errinfo = s.errinfo := rfl
@[simp] theorem State.withMoves_totbits (v : List Move) : (s.withMoves v).totbits = s.totbits := rfl
@[simp] theorem State.withMoves_outcnt (v : List Move) : (s.withMoves v).outcnt = s.outcnt := rfl
@[simp] theorem State.withMoves_m3cnt (v : List Move) : (s.withMoves v).m3cnt = s.m3cnt := rfl
@[simp] theorem State.withMoves_m3total (v : List Move) : (s.withMoves v).m3total = s.m3total := rfl
@[simp] theorem State.withMoves_tlsel (v : List Move) : (s.withMoves v).tlsel = s.tlsel := rfl
@[simp] theorem State.withMoves_pixres (v : List Move) : (s.withMoves v).pixres = s.pixres := rfl
@[simp] theorem State.withMoves_pixlen (v : List Move) : (s.withMoves v).pixlen = s.pixlen := rfl
@[simp] theorem State.withMoves_frame (v : List Move) : (s.withMoves v).frame = s.frame := rfl
@[simp] theorem State.withMoves_out (v : List Move) : (s.withMoves v).out = s.out := rfl
@[simp] theorem State.withMoves_m3res (v : List Move) : (s.withMoves v).m3res = s.m3res := rfl
@[simp] theorem State.withMoves_seq (v : List Move) : (s.withMoves v).seq = s.seq := rfl
@[simp] theorem State.withMoves_rst (v : List Move) : (s.withMoves v).rst = s.rst := rfl
@[simp] theorem State.withMoves_moves (v : List Move) : (s.withMoves v).moves = v := rfl
@[simp] theorem State.withMoves_port (v : List Move) : (s.withMoves v).port = s.port := rfl
@[simp] theorem State.withMoves_draws (v : List Move) : (s.withMoves v).draws = s.draws := rfl

/-- What a tabulated vector holds. -/
@[simp] theorem getElem_tabulate {α : Type} {n : Nat} (f : Fin n → α) (i : Nat) (h : i < n) : (tabulate f)[i] = f ⟨i, h⟩ := by
  unfold tabulate
  simp

/-! BUSY and irq of the updates -/
@[simp] theorem State.complete_busy : s.complete.busy = false := rfl
@[simp] theorem State.fail_busy (code : ErrCode) (index : BitVec 32) (b : BitVec 4) : (s.fail code index b).busy = false := rfl
@[simp] theorem State.start_busy (w : Word) (left : Nat) : (s.start w left).busy = true := rfl
@[simp] theorem State.answer_busy (r : Answer) : (s.answer r).busy = s.busy := rfl
@[simp] theorem State.draw_busy : s.draw.busy = s.busy := rfl
@[simp] theorem State.assertReset_busy : s.assertReset.busy = false := rfl
@[simp] theorem State.withNframes_busy (v : BitVec 32) : (s.withNframes v).busy = s.busy := rfl
@[simp] theorem State.withStatus_busy (v : Status) : (s.withStatus v).busy = s.busy := rfl
@[simp] theorem State.withDoneIe_busy (v : Bool) : (s.withDoneIe v).busy = s.busy := rfl
@[simp] theorem State.withTlsel_busy (v : TlSel) : (s.withTlsel v).busy = s.busy := rfl
@[simp] theorem State.withFrame_busy (v : Memory) : (s.withFrame v).busy = s.busy := rfl
@[simp] theorem State.withRst_busy (v : Bool) : (s.withRst v).busy = s.busy := rfl
@[simp] theorem State.withMoves_busy (v : List Move) : (s.withMoves v).busy = s.busy := rfl
@[simp] theorem State.withSeq_idle_busy : (s.withSeq .idle).busy = false := rfl
@[simp] theorem State.withSeq_running_busy (w : Word) (n : Nat) : (s.withSeq (.running w n)).busy = true := rfl
@[simp] theorem State.complete_irq : s.complete.irq = s.doneIe := by simp [State.irq, Status.completed]
@[simp] theorem State.fail_irq (code : ErrCode) (index : BitVec 32) (b : BitVec 4) : (s.fail code index b).irq = s.doneIe := by
  simp [State.irq, Status.failed]
@[simp] theorem State.start_irq (w : Word) (left : Nat) : (s.start w left).irq = false := by simp [State.irq, Status.started]
@[simp] theorem State.assertReset_irq : s.assertReset.irq = false := rfl

/-- BUSY = 1 exactly when the sequencer is RUNNING (10_state.md R43). -/
theorem State.busy_iff : s.busy = true ↔ ∃ w n, s.seq = .running w n := by
  unfold State.busy
  cases s.seq <;> simp

/-- BUSY = 0 exactly when the sequencer is IDLE (10_state.md R43). -/
theorem State.not_busy_iff : s.busy = false ↔ s.seq = .idle := by
  unfold State.busy
  cases s.seq <;> simp

/-! The STATUS fields of a start, a completion, a failure and a W1C write -/
@[simp] theorem Status.completed_done (t : Status) : t.completed.done = true := rfl
@[simp] theorem Status.completed_err (t : Status) : t.completed.err = t.err := rfl
@[simp] theorem Status.completed_errcode (t : Status) : t.completed.errcode = t.errcode := rfl
@[simp] theorem Status.completed_lastop (t : Status) : t.completed.lastop = t.lastop := rfl
@[simp] theorem Status.failed_done (t : Status) (c : ErrCode) : (t.failed c).done = true := rfl
@[simp] theorem Status.failed_err (t : Status) (c : ErrCode) : (t.failed c).err = true := rfl
@[simp] theorem Status.failed_errcode (t : Status) (c : ErrCode) : (t.failed c).errcode = c := rfl
@[simp] theorem Status.failed_lastop (t : Status) (c : ErrCode) : (t.failed c).lastop = t.lastop := rfl
@[simp] theorem Status.started_done (w : Word) : (Status.started w).done = false := rfl
@[simp] theorem Status.started_err (w : Word) : (Status.started w).err = false := rfl
@[simp] theorem Status.started_errcode (w : Word) : (Status.started w).errcode = .none := rfl
@[simp] theorem Status.started_lastop (w : Word) : (Status.started w).lastop = w.extractLsb' 0 8 := rfl
@[simp] theorem Status.w1c_done (t : Status) (d : Word) : (t.w1c d).done = (t.done && !d.getLsbD 1) := rfl
@[simp] theorem Status.w1c_err (t : Status) (d : Word) : (t.w1c d).err = (t.err && !d.getLsbD 2) := rfl
@[simp] theorem Status.w1c_errcode (t : Status) (d : Word) :
    (t.w1c d).errcode = if d.getLsbD 2 then .none else t.errcode := rfl
@[simp] theorem Status.w1c_lastop (t : Status) (d : Word) : (t.w1c d).lastop = t.lastop := rfl

end Sys2Proof.Machine
end

