-- ==== Sys2Proof/Laws/Ops.lean ====
section
/-! SUPPORT. What each operation shared by the commands can do, said once: reading the input, selecting a word size, and the
outcomes of the five meanings. -/

namespace Sys2Proof.Machine

open Sys2Proof Sys2Proof.Config

/-- The range a serialized word size must lie in. -/
theorem outOfRange_iff (b : Nat) : outOfRange b = true ↔ b < 4 ∨ 11 < b := by
  simp only [outOfRange, bOkLo, bOkHi, minWs, fieldBits, Bool.or_eq_true, decide_eq_true_eq]
  omega

/-- Parameters in their ranges. -/
theorem Params.wellFormed_iff (p : Params) :
    p.wellFormed = true ↔ (2 ≤ p.nMax ∧ p.nMax ≤ 65536) ∧ (2 ≤ p.outMax ∧ p.outMax ≤ 1048576) ∧ p.spiral.toList.Nodup := by
  simp only [Params.wellFormed, Params.nMaxOk, Params.outMaxOk, Params.spiralOk, Bool.and_eq_true, decide_eq_true_eq, and_assoc]

/-- The frame sequence of memory has NFRAMES frames. -/
@[simp] theorem State.frameList_length (s : State) : s.frameList.length = s.nframes.toNat := by simp [State.frameList]

/-- With every frame written, the frame sequence is read whole. -/
theorem State.frames_of_written {s : State} (h : s.framesWritten) : s.frames = .ok s.frameList := by
  rcases s.frame.readFrom_spec 0 s.nframes.toNat with ⟨j, -, -, hj, hn, -⟩ | ⟨he, -⟩
  · have := h j (by omega)
    simp [hn] at this
  · rw [State.frames, he, State.frameList, List.range_eq_range']

/-- With a frame unwritten, reading the sequence stops at the first such frame. -/
theorem State.frames_of_unwritten {s : State} (h : ¬s.framesWritten) :
    ∃ j, s.frames = .error j ∧ j < s.nframes.toNat ∧ s.frame.read j = none ∧ ∀ k, k < j → (s.frame.read k).isSome = true := by
  rcases s.frame.readFrom_spec 0 s.nframes.toNat with ⟨j, he, -, hj, hn, hk⟩ | ⟨-, hk⟩
  · exact ⟨j, he, by omega, hn, fun k h => hk k (Nat.zero_le _) h⟩
  · exact absurd (fun i hi => hk i (Nat.zero_le _) (by omega)) h

/-- `check_nframes()` fails exactly when NFRAMES does not fit. -/
theorem State.nframesTooMany_iff (s : State) : s.nframesTooMany = true ↔ ¬s.framesFit := by
  simp [State.nframesTooMany, State.framesFit]

/-- Where the failure of SERIALIZE writes nothing, it changes nothing. -/
theorem State.serializeNframesRange_eq {s : State} (h : s.params.nframesRangeZeroes = false) : s.serializeNframesRange = s := by
  simp [State.serializeNframesRange, h]

/-- Where the failure of SPIRAL writes nothing, it changes nothing. -/
theorem State.spiralNframesRange_eq {s : State} (h : s.params.nframesRangeZeroes = false) : s.spiralNframesRange = s := by
  simp [State.spiralNframesRange, h]

/-- NFRAMES > N_MAX fails the command. -/
theorem State.withFrames_tooMany {s : State} (u : State) (k : List Word → Result) (h : ¬s.framesFit) :
    s.withFrames u k = .next (u.fail .nframesRange s.nframes 0) := by
  rw [State.withFrames, if_pos ((s.nframesTooMany_iff).2 h)]

/-- A ready input is handed on. -/
theorem State.withFrames_ready {s : State} (u : State) (k : List Word → Result) (h : s.inputReady) :
    s.withFrames u k = k s.frameList := by
  have h1 : ¬s.nframesTooMany = true := fun e => (s.nframesTooMany_iff).1 e h.1
  rw [State.withFrames, if_neg h1, State.frames_of_written h.2]

/-- An unwritten frame faults. -/
theorem State.withFrames_unwritten {s : State} (u : State) (k : List Word → Result) (h : s.framesFit) (hw : ¬s.framesWritten) :
    ∃ j, s.withFrames u k = .fault (.uninitFrame j) ∧ j < s.nframes.toNat ∧ s.frame.read j = none ∧
      ∀ i, i < j → (s.frame.read i).isSome = true := by
  obtain ⟨j, he, hj, hn, hk⟩ := State.frames_of_unwritten hw
  have h1 : ¬s.nframesTooMany = true := fun e => (s.nframesTooMany_iff).1 e h
  exact ⟨j, by rw [State.withFrames, if_neg h1, he], hj, hn, hk⟩

/-- If a command that reads the frames answers a next state, NFRAMES did not fit or the input was ready. -/
theorem State.withFrames_next {s t u : State} {k : List Word → Result} (h : s.withFrames u k = .next t) :
    (¬s.framesFit ∧ t = u.fail .nframesRange s.nframes 0) ∨ (s.inputReady ∧ k s.frameList = .next t) := by
  by_cases hf : s.framesFit
  · by_cases hw : s.framesWritten
    · exact .inr ⟨⟨hf, hw⟩, by rw [← State.withFrames_ready u k ⟨hf, hw⟩, h]⟩
    · obtain ⟨j, he, -⟩ := State.withFrames_unwritten u k hf hw
      rw [he] at h
      cases h
  · rw [State.withFrames_tooMany u k hf] at h
    exact .inl ⟨hf, by cases h; rfl⟩

/-- The selection loop over any further candidates keeps a best that is the largest of minimal length so far. -/
theorem selectFold_spec (len : Nat → Nat) (lo : Nat) (n : Nat) (best : Nat × Nat) (c : Nat)
    (h1 : lo ≤ best.1) (h2 : best.1 < c) (h3 : best.2 = len best.1)
    (h4 : ∀ b, lo ≤ b → b < c → best.2 ≤ len b ∧ (len b = best.2 → b ≤ best.1)) :
    let r := (List.range' c n).foldl (fun a b => if len b ≤ a.2 then (b, len b) else a) best
    lo ≤ r.1 ∧ r.1 < c + n ∧ r.2 = len r.1 ∧ ∀ b, lo ≤ b → b < c + n → r.2 ≤ len b ∧ (len b = r.2 → b ≤ r.1) := by
  induction n generalizing best c with
  | zero => exact ⟨h1, h2, h3, fun b hb hb' => h4 b hb hb'⟩
  | succ n ih =>
    simp only [List.range'_succ, List.foldl_cons]
    have e : c + 1 + n = c + (n + 1) := by omega
    rw [← e]
    split
    · rename_i hc
      refine ih (c, len c) (c + 1) (by simp; omega) (by simp) rfl fun b hb hb' => ?_
      by_cases hbc : b = c
      · simp [hbc]
      · have := h4 b hb (by omega)
        exact ⟨by simp; omega, fun _ => by simp; omega⟩
    · rename_i hc
      refine ih best (c + 1) h1 (by omega) h3 fun b hb hb' => ?_
      by_cases hbc : b = c
      · subst hbc
        exact ⟨by omega, fun e => by omega⟩
      · exact h4 b hb (by omega)

/-- The selection loop gives a word size of its range, its length, and no other word size of the range is shorter, nor as short
and larger. -/
theorem selectBy_spec (len : Nat → Nat) {lo hi : Nat} (h : lo ≤ hi) :
    lo ≤ (selectBy len lo hi).1 ∧ (selectBy len lo hi).1 ≤ hi ∧ (selectBy len lo hi).2 = len (selectBy len lo hi).1 ∧
      ∀ b, lo ≤ b → b ≤ hi →
        (selectBy len lo hi).2 ≤ len b ∧ (len b = (selectBy len lo hi).2 → b ≤ (selectBy len lo hi).1) := by
  have := selectFold_spec len lo (hi - lo) (lo, len lo) (lo + 1) (Nat.le_refl _) (Nat.lt_succ_self _) rfl
    (fun b hb hb' => by
      have : b = lo := by omega
      simp [this])
  obtain ⟨h1, h2, h3, h4⟩ := this
  exact ⟨h1, by unfold selectBy; omega, h3, fun b hb hb' => h4 b hb (by omega)⟩

/-- What the loop of SERIALIZE can end in. -/
theorem State.serializeDiffs_cases (s : State) (ds : List Word) :
    (ds = [] ∧ s.serializeDiffs ds = s.serializeEmpty.complete) ∨
    (ds ≠ [] ∧ ∃ p b, boundsViolation ds = some (p, b) ∧
      s.serializeDiffs ds = s.serializeBRange.fail .bRange (BitVec.ofNat 32 p.val) (BitVec.ofNat 4 b)) ∨
    (ds ≠ [] ∧ boundsViolation ds = none ∧ s.params.outMax < chunks (assemble ds).2 + 1 ∧
      s.serializeDiffs ds = (s.serializeOverflow (assemble ds).2).fail .outOverflow
        (BitVec.ofNat 32 (chunks (assemble ds).2 + 1)) 0) ∨
    (ds ≠ [] ∧ boundsViolation ds = none ∧ chunks (assemble ds).2 + 1 ≤ s.params.outMax ∧
      s.serializeDiffs ds = (s.serializeOutput (assemble ds).1 (assemble ds).2).complete) := by
  unfold State.serializeDiffs
  by_cases hd : ds = []
  · exact .inl ⟨hd, by simp [hd]⟩
  · refine .inr ?_
    have hl : ¬ds.length = 0 := by simpa using hd
    rw [if_neg hl]
    cases hb : boundsViolation ds with
    | some pb => exact .inl ⟨hd, pb.1, pb.2, rfl, rfl⟩
    | none =>
      refine .inr ?_
      simp only [State.serializeAssembled]
      by_cases ho : s.params.outMax < chunks (assemble ds).2 + 1
      · exact .inl ⟨hd, trivial, ho, by rw [if_pos ho]⟩
      · exact .inr ⟨hd, trivial, Nat.le_of_not_lt ho, by rw [if_neg ho]⟩

/-- What the loop of SPIRAL can end in. -/
theorem State.spiralMasks_cases (s : State) (ms : List Word) :
    (∃ i b, m3Violation s.params 0 ms = some (i, b) ∧
      s.spiralMasks ms = s.spiralBRange.fail .m3BRange (BitVec.ofNat 32 i) (BitVec.ofNat 4 b)) ∨
    (m3Violation s.params 0 ms = none ∧ s.spiralMasks ms = (s.spiralOutput ms).complete) := by
  unfold State.spiralMasks
  cases h : m3Violation s.params 0 ms with
  | some ib => exact .inl ⟨ib.1, ib.2, rfl, rfl⟩
  | none => exact .inr ⟨rfl, rfl⟩

/-- The outcomes of the meanings, each as its shared operation gives it. -/
theorem exec_nop (s : State) : exec .nop s = .next s.complete := rfl

theorem exec_clear (s : State) : exec .clear s = .next s.clearResults.complete := rfl

theorem exec_select (s : State) :
    exec .select s = s.withFrames s fun fs => .next (s.writePixels (diffs fs)).complete := rfl

theorem exec_serialize (s : State) :
    exec .serialize s = s.withFrames s.serializeNframesRange fun fs => .next ((s.writePixels (diffs fs)).serializeDiffs (diffs fs)) := rfl

theorem exec_spiral (src : Src) (s : State) :
    exec (.spiral src) s = s.withFrames s.spiralNframesRange fun fs => .next (s.spiralMasks (selectMasks src fs)) := rfl

/-- SELECT on a ready input. -/
theorem exec_select_ready {s : State} (h : s.inputReady) : exec .select s = .next (s.writePixels s.diffList).complete := by
  rw [exec_select, State.withFrames_ready _ _ h, State.diffList]

/-- SERIALIZE on a ready input. -/
theorem exec_serialize_ready {s : State} (h : s.inputReady) :
    exec .serialize s = .next ((s.writePixels s.diffList).serializeDiffs s.diffList) := by
  rw [exec_serialize, State.withFrames_ready _ _ h, State.diffList]

/-- SPIRAL on a ready input. -/
theorem exec_spiral_ready {s : State} (src : Src) (h : s.inputReady) :
    exec (.spiral src) s = .next (s.spiralMasks (selectMasks src s.frameList)) := by
  rw [exec_spiral, State.withFrames_ready _ _ h]

/-- `t` is a completion or a failure of a state that differs from `s` in the results alone. -/
def State.EndsFrom (t s : State) : Prop :=
  ∃ u : State, u.hostSide = s.hostSide ∧ u.status = s.status ∧ u.draws = s.draws ∧
    (t = u.complete ∨ ∃ code index b, code ≠ ErrCode.none ∧ t = u.fail code index b)

/-- Every next state of a command is such an end. -/
theorem exec_next {i : Instr} {s t : State} (h : exec i s = .next t) : t.EndsFrom s := by
  have ok : ∀ u : State, u.hostSide = s.hostSide → u.status = s.status → u.draws = s.draws → u.complete.EndsFrom s :=
    fun u h1 h2 h3 => ⟨u, h1, h2, h3, .inl rfl⟩
  have bad : ∀ (u : State) (c : ErrCode) (x : BitVec 32) (b : BitVec 4), c ≠ .none → u.hostSide = s.hostSide →
      u.status = s.status → u.draws = s.draws → (u.fail c x b).EndsFrom s :=
    fun u c x b hc h1 h2 h3 => ⟨u, h1, h2, h3, .inr ⟨c, x, b, hc, rfl⟩⟩
  cases i with
  | nop => cases h; exact ok s rfl rfl rfl
  | clear => cases h; exact ok s.clearResults rfl rfl rfl
  | select =>
    rcases State.withFrames_next ((exec_select s).symm.trans h) with ⟨-, rfl⟩ | ⟨-, he⟩
    · exact bad s _ _ _ (by simp) rfl rfl rfl
    · cases he
      exact ok (s.writePixels _) (by simp [State.hostSide]) (by simp) (by simp)
  | serialize =>
    rcases State.withFrames_next ((exec_serialize s).symm.trans h) with ⟨-, rfl⟩ | ⟨-, he⟩
    · exact bad s.serializeNframesRange _ _ _ (by simp) rfl rfl rfl
    · cases he
      rcases (s.writePixels (diffs s.frameList)).serializeDiffs_cases (diffs s.frameList) with
        ⟨-, e⟩ | ⟨-, p, b, -, e⟩ | ⟨-, -, -, e⟩ | ⟨-, -, -, e⟩ <;> rw [e]
      · exact ok _ (by simp [State.hostSide]) (by simp) (by simp)
      · exact bad _ _ _ _ (by simp) (by simp [State.hostSide]) (by simp) (by simp)
      · exact bad _ _ _ _ (by simp) (by simp [State.hostSide]) (by simp) (by simp)
      · exact ok _ (by simp [State.hostSide]) (by simp) (by simp)
  | spiral src =>
    rcases State.withFrames_next ((exec_spiral src s).symm.trans h) with ⟨-, rfl⟩ | ⟨-, he⟩
    · exact bad s.spiralNframesRange _ _ _ (by simp) rfl rfl rfl
    · cases he
      rcases s.spiralMasks_cases (selectMasks src s.frameList) with ⟨i, b, -, e⟩ | ⟨-, e⟩ <;> rw [e]
      · exact bad _ _ _ _ (by simp) (by simp [State.hostSide]) (by simp) (by simp)
      · exact ok _ (by simp [State.hostSide]) (by simp) (by simp)

end Sys2Proof.Machine
end

