-- ==== Sys2Proof/Laws/Code.lean ====
section
/-! SUPPORT. The codes as numbers: the code words of a value, what a packed word list holds, the value of a bit string and of the
words of a memory, and how far the searches for a word out of range look. -/

namespace Sys2Proof.Machine

open Sys2Proof Sys2Proof.Config

/-- A diff sequence is one shorter than its frame sequence. -/
theorem diffs_length (fs : List Word) : (diffs fs).length = fs.length - 1 := by
  induction fs with
  | nil => rfl
  | cons f fs ih =>
    cases fs with
    | nil => rfl
    | cons g fs => simpa [diffs] using ih

theorem timelineFrom_ne_nil (p : Pixel) (ds : List Word) (n : Nat) : timelineFrom p ds n ≠ [] := by
  induction ds generalizing n with
  | nil => simp [timelineFrom]
  | cons d ds ih =>
    simp only [timelineFrom]
    split
    · simp
    · exact ih _

/-- A timeline is never empty. -/
theorem timeline_ne_nil (ds : List Word) (p : Pixel) : timeline ds p ≠ [] := timelineFrom_ne_nil p ds 0

/-- One turn of the escape loop, whatever fuel is left beyond what the loop needs. -/
theorem valueWords_step {b fuel v : Nat} (hb : 2 ≤ b) (hf : v ≤ fuel) :
    valueWords b fuel v = if 2 ^ b ≤ v then 0 :: valueWords b (v - (2 ^ b - 1)) (v - (2 ^ b - 1)) else [v] := by
  have h4 : 4 ≤ 2 ^ b := Nat.pow_le_pow_right (n := 2) (by omega) hb
  have indep : ∀ (k f g : Nat), k ≤ f → k ≤ g → valueWords b f k = valueWords b g k := by
    intro k
    induction k using Nat.strongRecOn with
    | ind k ih =>
      intro f g h1 h2
      cases f with
      | zero =>
        cases g with
        | zero => rfl
        | succ g =>
          have : ¬2 ^ b ≤ k := by omega
          simp [valueWords, this]
      | succ f =>
        cases g with
        | zero =>
          have : ¬2 ^ b ≤ k := by omega
          simp [valueWords, this]
        | succ g =>
          simp only [valueWords]
          split
          · rw [ih (k - (2 ^ b - 1)) (by omega) f g (by omega) (by omega)]
          · rfl
  cases fuel with
  | zero =>
    have : ¬2 ^ b ≤ v := by omega
    simp [valueWords, this]
  | succ fuel =>
    simp only [valueWords]
    split
    · rw [indep (v - (2 ^ b - 1)) fuel _ (by omega) (Nat.le_refl _)]
    · rfl

/-- Every code word of a value fits b bits. -/
theorem valueWords_lt {b : Nat} (hb : 2 ≤ b) (v w : Nat) (h : w ∈ valueWords b v v) : w < 2 ^ b := by
  have h4 : 4 ≤ 2 ^ b := Nat.pow_le_pow_right (n := 2) (by omega) hb
  induction v using Nat.strongRecOn with
  | ind v ih =>
    rw [valueWords_step hb (Nat.le_refl _)] at h
    split at h
    · rcases List.mem_cons.1 h with rfl | h
      · omega
      · exact ih _ (by omega) h
    · simp only [List.mem_singleton] at h
      omega

/-- Every code word of a list fits b bits. -/
theorem vwWords_lt {b : Nat} (hb : 2 ≤ b) {t : List Nat} {w : Nat} (h : w ∈ vwWords t b) : w < 2 ^ b := by
  obtain ⟨v, -, hw⟩ := List.mem_flatMap.1 h
  exact valueWords_lt hb v w hw

/-- A value has at least one code word. -/
theorem valueWords_ne_nil (b fuel v : Nat) : valueWords b fuel v ≠ [] := by
  cases fuel with
  | zero => simp [valueWords]
  | succ fuel =>
    simp only [valueWords]
    split <;> simp

/-- A list that is not empty has at least one code word. -/
theorem vwWords_ne_nil (b : Nat) {t : List Nat} (h : t ≠ []) : vwWords t b ≠ [] := by
  cases t with
  | nil => exact absurd rfl h
  | cons v t =>
    simp only [vwWords, List.flatMap_cons, ne_eq, List.append_eq_nil_iff, not_and]
    exact fun e => absurd e (valueWords_ne_nil b v v)

/-- Packing is positional notation with base `2^b`. -/
theorem packWords_cons (b w : Nat) (ws : List Nat) : packWords b (w :: ws) = w + packWords b ws * 2 ^ b := by
  rw [packWords, Nat.shiftLeft_eq]

/-- A packed list of words that fit b bits fits as many digits as it has words. -/
theorem packWords_lt {b : Nat} {ws : List Nat} (h : ∀ w ∈ ws, w < 2 ^ b) : packWords b ws < 2 ^ (b * ws.length) := by
  induction ws with
  | nil => simp [packWords]
  | cons w ws ih =>
    have h1 := ih fun x hx => h x (List.mem_cons_of_mem _ hx)
    have h2 := h w List.mem_cons_self
    rw [packWords_cons, List.length_cons, Nat.mul_add, Nat.mul_one, Nat.pow_add]
    have : (packWords b ws + 1) * 2 ^ b ≤ 2 ^ (b * ws.length) * 2 ^ b := Nat.mul_le_mul_right _ h1
    rw [Nat.add_mul] at this
    omega

/-- Digit k of a packed list is word k. -/
theorem packWords_digit {b : Nat} {ws : List Nat} (h : ∀ w ∈ ws, w < 2 ^ b) {k w : Nat} (hk : ws[k]? = some w) :
    packWords b ws / 2 ^ (b * k) % 2 ^ b = w := by
  induction ws generalizing k with
  | nil => simp at hk
  | cons x ws ih =>
    have hx := h x List.mem_cons_self
    rw [packWords_cons]
    cases k with
    | zero =>
      simp only [List.getElem?_cons_zero, Option.some.injEq] at hk
      subst hk
      simp [Nat.mod_eq_of_lt hx]
    | succ k =>
      simp only [List.getElem?_cons_succ] at hk
      have e : b * (k + 1) = b + b * k := by rw [Nat.mul_add, Nat.mul_one, Nat.add_comm]
      have hp : 0 < 2 ^ b := Nat.two_pow_pos b
      rw [e, Nat.pow_add, ← Nat.div_div_eq_div_mul, Nat.add_mul_div_right _ _ hp, Nat.div_eq_of_lt hx, Nat.zero_add]
      exact ih (fun y hy => h y (List.mem_cons_of_mem _ hy)) hk

/-- The value of two bit strings put together. -/
theorem stringValue_append (x y : List Bool) : stringValue (x ++ y) = stringValue x * 2 ^ y.length + stringValue y := by
  have gen : ∀ (z : List Bool) (n : Nat),
      z.foldl (fun n c => 2 * n + c.toNat) n = n * 2 ^ z.length + z.foldl (fun n c => 2 * n + c.toNat) 0 := by
    intro z
    induction z with
    | nil => simp
    | cons c z ih =>
      intro n
      simp only [List.foldl_cons, List.length_cons, Nat.pow_succ]
      rw [ih, ih (2 * 0 + c.toNat)]
      ring
  unfold stringValue
  rw [List.foldl_append, gen y]

@[simp] theorem bitString_length (b v : Nat) : (bitString b v).length = b := by
  induction b with
  | zero => rfl
  | succ b ih => simp [bitString, ih]

/-- The bit string of a number has the number's low bits as its value. -/
theorem stringValue_bitString (b v : Nat) : stringValue (bitString b v) = v % 2 ^ b := by
  induction b with
  | zero => simp [bitString, stringValue, Nat.mod_one]
  | succ b ih =>
    have e : bitString (b + 1) v = [v.testBit b] ++ bitString b v := rfl
    rw [e, stringValue_append, ih, bitString_length]
    have h1 : stringValue [v.testBit b] = v / 2 ^ b % 2 := by
      simp [stringValue, Nat.testBit_eq_decide_div_mod_eq]
      rcases Nat.mod_two_eq_zero_or_one (v / 2 ^ b) with h | h <;> simp [h]
    rw [h1, Nat.pow_succ, Nat.mod_mul, Nat.mul_comm]
    omega

/-- A block's number is its field and, above it, its packed words. -/
theorem blockOf_fst {b : Nat} (h : b - minWs < 2 ^ fieldBits) (ws : List Nat) :
    (blockOf b ws).1 = (b - minWs) + packWords b ws * 2 ^ fieldBits := by
  show (b - minWs) ||| (packWords b ws <<< fieldBits) = _
  rw [Nat.or_comm, ← Nat.shiftLeft_add_eq_or_of_lt h, Nat.shiftLeft_eq, Nat.add_comm]

/-- The value of the first words of a memory, when they are the 64-bit digits of a number. -/
theorem streamValue_of_digits {m : Memory} {n k : Nat}
    (h : ∀ i, i < k → m.read i = some (BitVec.ofNat 64 (n >>> (64 * i)))) : streamValue m k = n % 2 ^ (64 * k) := by
  induction k with
  | zero => simp [streamValue, Nat.mod_one]
  | succ k ih =>
    rw [streamValue, ih fun i hi => h i (by omega), h k (by omega)]
    simp only [Option.getD_some, BitVec.toNat_ofNat, Nat.shiftLeft_eq, Nat.shiftRight_eq_div_pow]
    rw [Nat.mul_add, Nat.mul_one, Nat.pow_add, Nat.mod_mul]
    ring

/-- The output words: the chunks of the number, and after them the zero word. -/
theorem outWords_getElem? (n t i : Nat) (h : i ≤ chunks t) :
    (outWords n t)[i]? = some (if i < chunks t then BitVec.ofNat 64 (n >>> (64 * i)) else 0) := by
  unfold outWords
  split
  · rename_i hi
    rw [List.getElem?_append_left (by simpa using hi)]
    simp [hi, chunk]
  · have e : i = chunks t := by omega
    subst e
    simp

@[simp] theorem outWords_length (n t : Nat) : (outWords n t).length = chunks t + 1 := by simp [outWords]

/-- The bounds check of SERIALIZE passes exactly when every pixel's word size is in range. -/
theorem boundsViolation_eq_none (ds : List Word) :
    boundsViolation ds = none ↔ ∀ p : Pixel, 4 ≤ (select (timeline ds p)).1 ∧ (select (timeline ds p)).1 ≤ 11 := by
  simp only [boundsViolation, Option.map_eq_none_iff, List.find?_eq_none, outOfRange_iff, pixelsDown, List.mem_reverse,
    List.mem_finRange, true_implies]
  exact forall_congr' fun p => by omega

end Sys2Proof.Machine
end

