-- ==== Sys2Proof/Laws/Words.lean ====
section
/-! SUPPORT. The words in which registers with fields read, as numbers: each field at its weight. -/

namespace Sys2Proof.Machine

open Sys2Proof Sys2Proof.Config

/-- A field put above another, as a number. -/
theorem append_toNat {m n : Nat} (x : BitVec m) (y : BitVec n) : BitVec.toNat (x ++ y) = x.toNat * 2 ^ n + y.toNat := by
  rw [BitVec.toNat_append, ← Nat.shiftLeft_add_eq_or_of_lt y.isLt, Nat.shiftLeft_eq]

theorem lowWord_toNat (v : BitVec 32) : (lowWord v).toNat = v.toNat := by
  show BitVec.toNat (0#32 ++ v) = _
  rw [append_toNat]
  simp

theorem State.statusWord_toNat (s : State) :
    s.statusWord.toNat = s.busy.toNat + 2 * s.status.done.toNat + 4 * s.status.err.toNat +
      16 * s.status.errcode.code.toNat + 256 * s.status.lastop.toNat := by
  show BitVec.toNat (0#48 ++ s.status.lastop ++ s.status.errcode.code ++ 0#1 ++ BitVec.ofBool s.status.err ++
    BitVec.ofBool s.status.done ++ BitVec.ofBool s.busy) = _
  simp only [append_toNat, BitVec.toNat_ofBool, BitVec.toNat_ofNat]
  omega

theorem State.irqenWord_toNat (s : State) : s.irqenWord.toNat = s.doneIe.toNat := by
  show BitVec.toNat (0#63 ++ BitVec.ofBool s.doneIe) = _
  rw [append_toNat]
  simp

theorem ErrInfo.word_toNat (e : ErrInfo) : e.word.toNat = e.index.toNat + 2 ^ 32 * e.b.toNat := by
  show BitVec.toNat (0#28 ++ e.b ++ e.index) = _
  simp only [append_toNat, BitVec.toNat_ofNat]
  omega

theorem TlSel.word_toNat (t : TlSel) : t.word.toNat = t.pix.toNat + 2 ^ 32 * t.idx.toNat := by
  show BitVec.toNat (t.idx ++ 0#26 ++ t.pix) = _
  simp only [append_toNat, BitVec.toNat_ofNat]
  omega

theorem PixRes.word_toNat (r : PixRes) : r.word.toNat = r.b.toNat + 2 ^ 8 * r.valid.toNat + 2 ^ 32 * r.dlen.toNat := by
  show BitVec.toNat (r.dlen ++ 0#23 ++ BitVec.ofBool r.valid ++ 0#4 ++ r.b) = _
  simp only [append_toNat, BitVec.toNat_ofNat, BitVec.toNat_ofBool]
  omega

theorem m3Word_toNat (b len : Nat) : (m3Word b len).toNat = b % 2 ^ 4 + 2 ^ 32 * (len % 2 ^ 16) := by
  show BitVec.toNat (0#16 ++ BitVec.ofNat 16 len ++ 0#28 ++ BitVec.ofNat 4 b) = _
  simp only [append_toNat, BitVec.toNat_ofNat]
  omega

theorem tlDataWord_toNat (v : Nat) : (tlDataWord v).toNat = 2 ^ 32 + v % 2 ^ 32 := by
  show BitVec.toNat (0#31 ++ 1#1 ++ BitVec.ofNat 32 v) = _
  simp only [append_toNat, BitVec.toNat_ofNat]
  omega

theorem capsWord_toNat (p : Params) : (capsWord p).toNat = p.nMax % 2 ^ 32 + 2 ^ 32 * (p.outMax % 2 ^ 32) := by
  show BitVec.toNat (BitVec.ofNat 32 p.outMax ++ BitVec.ofNat 32 p.nMax) = _
  simp only [append_toNat, BitVec.toNat_ofNat]
  omega

theorem paramsWord_toNat (p : Params) : (paramsWord p).toNat = 0x72F234 + 2 ^ 24 * p.m3BoundsCheck.toNat := by
  cases h : p.m3BoundsCheck <;> simp only [paramsWord, h] <;> rfl

theorem spiralWord_toNat (p : Params) (i : Fin 64) : (spiralWord p i).toNat = p.spiral[i].val := by
  show BitVec.toNat (0#58 ++ BitVec.ofNat 6 p.spiral[i].val) = _
  simp only [append_toNat, BitVec.toNat_ofNat]
  have := p.spiral[i].isLt
  omega

end Sys2Proof.Machine
end

