-- ==== Sys2Proof/Laws/Port.lean ====
section
/-! SUPPORT. What the host port and a step can do, said once: the outcomes of a read, a write and a move, and the inversion of a
step. -/

namespace Sys2Proof.Machine

open Sys2Proof Sys2Proof.Config

/-! What a read of each row gives. -/
@[simp] theorem State.readTarget_id (s : State) : s.readTarget .id = .word idWord := rfl
@[simp] theorem State.readTarget_params (s : State) : s.readTarget .params = .word (paramsWord s.params) := rfl
@[simp] theorem State.readTarget_caps (s : State) : s.readTarget .caps = .word (capsWord s.params) := rfl
@[simp] theorem State.readTarget_nframes (s : State) : s.readTarget .nframes = .word (lowWord s.nframes) := rfl
@[simp] theorem State.readTarget_cmd (s : State) : s.readTarget .cmd = .word s.cmd := rfl
@[simp] theorem State.readTarget_status (s : State) : s.readTarget .status = .word s.statusWord := rfl
@[simp] theorem State.readTarget_irqen (s : State) : s.readTarget .irqen = .word s.irqenWord := rfl
@[simp] theorem State.readTarget_errinfo (s : State) : s.readTarget .errinfo = s.resultRead (.word s.errinfo.word) := rfl
@[simp] theorem State.readTarget_totbits (s : State) : s.readTarget .totbits = s.resultRead (.word (lowWord s.totbits)) := rfl
@[simp] theorem State.readTarget_outcnt (s : State) : s.readTarget .outcnt = s.resultRead (.word (lowWord s.outcnt)) := rfl
@[simp] theorem State.readTarget_m3cnt (s : State) : s.readTarget .m3cnt = s.resultRead (.word (lowWord s.m3cnt)) := rfl
@[simp] theorem State.readTarget_m3total (s : State) : s.readTarget .m3total = s.resultRead (.word (lowWord s.m3total)) := rfl
@[simp] theorem State.readTarget_tlsel (s : State) : s.readTarget .tlsel = .word s.tlsel.word := rfl
@[simp] theorem State.readTarget_tldata (s : State) :
    s.readTarget .tldata = s.readTimeline fun t => tlDataOf t s.tlsel.idx.toNat := rfl
@[simp] theorem State.readTarget_tllen (s : State) :
    s.readTarget .tllen = s.readTimeline fun t => lowWord (BitVec.ofNat 32 t.length) := rfl
@[simp] theorem State.readTarget_pixres (s : State) (p : Pixel) :
    s.readTarget (.pixres p) = s.resultRead (.word s.pixres[p].word) := rfl
@[simp] theorem State.readTarget_pixlen (s : State) (p : Pixel) (b : Fin 16) :
    s.readTarget (.pixlen p b) = s.resultRead (.word (lowWord s.pixlen[p][b])) := rfl
@[simp] theorem State.readTarget_spiral (s : State) (i : Fin 64) :
    s.readTarget (.spiral i) = .word (spiralWord s.params i) := rfl
@[simp] theorem State.readTarget_frame (s : State) (i : Fin 65536) : s.readTarget (.frame i) = s.readFrame i.val := rfl
@[simp] theorem State.readTarget_diff (s : State) (i : Fin 65536) : s.readTarget (.diff i) = s.readDiff i.val := rfl
@[simp] theorem State.readTarget_m3res (s : State) (i : Fin 65536) :
    s.readTarget (.m3res i) = s.resultRead (validRead s.m3res s.m3cnt.toNat i.val) := rfl
@[simp] theorem State.readTarget_out (s : State) (i : Fin 1048576) :
    s.readTarget (.out i) = s.resultRead (validRead s.out s.outcnt.toNat i.val) := rfl

/-- A result row is exact while no command runs. -/
theorem State.resultRead_idle {s : State} (h : s.busy = false) (r : ReadOut) : s.resultRead r = r := by
  simp [State.resultRead, h]

/-- A result row is drawn while a command runs. -/
theorem State.resultRead_busy {s : State} (h : s.busy = true) (r : ReadOut) : s.resultRead r = .drawn := by
  simp [State.resultRead, h]

/-- With fewer than two frames the diff sequence is empty. -/
theorem State.diffList_of_short {s : State} (h : s.nframes.toNat < 2) : s.diffList = [] := by
  have e : s.diffList.length = 0 := by
    rw [State.diffList, diffs_length, State.frameList_length]
    omega
  exact List.eq_nil_of_length_eq_zero e

/-- A read-out of a timeline with fewer than two frames, written or not. -/
theorem State.readTimeline_short {s : State} (h : s.framesFit) (hn : s.nframes.toNat < 2) (k : List Nat → Word) :
    s.readTimeline k = .word (k (timeline [] s.tlsel.pixel)) := by
  have hm : ¬s.nframesTooMany = true := fun e => (s.nframesTooMany_iff).1 e h
  rw [State.readTimeline, if_neg hm, if_pos hn]

/-- A read-out of a timeline, on a ready input. -/
theorem State.readTimeline_ready {s : State} (h : s.inputReady) (k : List Nat → Word) :
    s.readTimeline k = .word (k (s.tl s.tlsel.pixel)) := by
  have hm : ¬s.nframesTooMany = true := fun e => (s.nframesTooMany_iff).1 e h.1
  by_cases hn : s.nframes.toNat < 2
  · rw [State.readTimeline_short h.1 hn, State.tl, State.diffList_of_short hn]
  · rw [State.readTimeline, if_neg hm, if_neg hn, State.frames_of_written h.2]
    rfl

/-- A read-out of a timeline stops exactly when it needs the frames and one of them is unwritten. -/
theorem State.readTimeline_unwritten {s : State} (h : s.framesFit) (hn : 2 ≤ s.nframes.toNat) (hw : ¬s.framesWritten)
    (k : List Nat → Word) : ∃ j, s.readTimeline k = .unwritten j ∧ s.frame.read j = none := by
  have hm : ¬s.nframesTooMany = true := fun e => (s.nframesTooMany_iff).1 e h
  obtain ⟨j, he, -, hj, -⟩ := State.frames_of_unwritten hw
  exact ⟨j, by rw [State.readTimeline, if_neg hm, if_neg (by omega), he], hj⟩

/-- A read of a row whose frame is unwritten. -/
theorem hostRead_unwritten {a : Addr} {s : State} {t : Target} {j : Nat} (h : s.targetAt a = some t)
    (hw : s.readTarget t = .unwritten j) : hostRead a s = .fault (.uninitFrame j) := by
  simp [hostRead, h, hw]

/-- A read of a word that stands unspecified. -/
theorem hostRead_standing {a : Addr} {s : State} {t : Target} (h : s.targetAt a = some t) (hw : s.readTarget t = .standing) :
    hostRead a s = .next (s.answer (.read (freeWord s.draws a) .okay)) := by
  simp [hostRead, h, hw]

/-- A read stops only on a row of the block that reads an unwritten frame. -/
theorem hostRead_fault {a : Addr} {s : State} {x : Fault} (h : hostRead a s = .fault x) :
    ∃ t j, s.targetAt a = some t ∧ s.readTarget t = .unwritten j ∧ x = .uninitFrame j := by
  unfold hostRead at h
  split at h
  · cases h
  · split at h
    · cases h
    · cases h
    · cases h
    · rename_i t ht _ j hj
      cases h
      exact ⟨t, j, ht, hj, rfl⟩

/-- A free draw is read only while a command runs. -/
theorem State.readTarget_drawn {s : State} {t : Target} (h : s.readTarget t = .drawn) : s.busy = true := by
  have hr : ∀ r : ReadOut, r ≠ .drawn → s.resultRead r = .drawn → s.busy = true := fun r hn h => by
    unfold State.resultRead at h
    split at h
    · assumption
    · exact absurd h hn
  have hv : ∀ (m : Memory) (c i : Nat), validRead m c i ≠ .drawn := fun m c i => by
    unfold validRead
    split
    · split <;> simp
    · simp
  have ht : ∀ k, s.readTimeline k ≠ .drawn := fun k => by
    unfold State.readTimeline
    split
    · simp
    · split
      · simp
      · split <;> simp
  cases t
  case id | params | caps | nframes | cmd | status | irqen | tlsel | spiral => simp [State.readTarget] at h
  case errinfo | totbits | outcnt | m3cnt | m3total | pixres | pixlen =>
    exact hr _ (by simp) h
  case tldata | tllen =>
    simp only [State.readTarget] at h
    exact absurd h (ht _)
  case frame i =>
    simp only [State.readTarget, State.readFrame] at h
    split at h <;> simp at h
  case diff i =>
    simp only [State.readTarget, State.readDiff] at h
    split at h
    · split at h <;> simp at h
    · simp at h
  case m3res | out => exact hr _ (hv _ _ _) h

/-- The next state of a read: the port's answer, and a draw if a command runs; nothing else changes. -/
theorem hostRead_next {a : Addr} {s t : State} (h : hostRead a s = .next t) :
    ∃ w r, t = s.answer (.read w r) ∨ (s.busy = true ∧ t = (s.answer (.read w r)).draw) := by
  unfold hostRead at h
  split at h
  · cases h; exact ⟨_, _, .inl rfl⟩
  · split at h
    · cases h; exact ⟨_, _, .inl rfl⟩
    · cases h; exact ⟨_, _, .inl rfl⟩
    · rename_i hd
      cases h; exact ⟨_, _, .inr ⟨State.readTarget_drawn hd, rfl⟩⟩
    · cases h

/-- A row the block does not have answers a read with ERROR and data 0. -/
theorem hostRead_absent {a : Addr} {s : State} (h : s.targetAt a = none) : hostRead a s = .next (s.answer (.read 0 .error)) := by
  simp [hostRead, h]

/-- A read of an exact word. -/
theorem hostRead_word {a : Addr} {s : State} {t : Target} {w : Word} (h : s.targetAt a = some t) (hw : s.readTarget t = .word w) :
    hostRead a s = .next (s.answer (.read w .okay)) := by
  simp [hostRead, h, hw]

/-- A write is refused, or it is accepted and does to its row what `writeTarget` says. -/
theorem hostWrite_cases (a : Addr) (d : Word) (s : State) :
    ((s.targetAt a).bind (s.writeTarget d) = none ∧ hostWrite a d s = s.answer (.write .error)) ∨
    ∃ t u, s.targetAt a = some t ∧ s.writeTarget d t = some u ∧ hostWrite a d s = (u.answer (.write .okay)).draw := by
  unfold hostWrite
  cases ht : s.targetAt a with
  | none => exact .inl ⟨rfl, rfl⟩
  | some t =>
    cases hu : s.writeTarget d t with
    | none => exact .inl ⟨by simp [hu], by simp [hu]⟩
    | some u => exact .inr ⟨t, u, rfl, hu, by simp [hu]⟩

/-- A write that its row accepts. -/
theorem hostWrite_accepted {s u : State} {a : Addr} {d : Word} {t : Target} (h : s.targetAt a = some t)
    (hu : s.writeTarget d t = some u) : hostWrite a d s = (u.answer (.write .okay)).draw := by
  simp [hostWrite, h, hu]

/-- A write that nothing accepts. -/
theorem hostWrite_refused {s : State} {a : Addr} {d : Word} (h : (s.targetAt a).bind (s.writeTarget d) = none) :
    hostWrite a d s = s.answer (.write .error) := by
  simp [hostWrite, h]

/-- The effects an accepted write can have. -/
theorem State.writeTarget_some {s u : State} {d : Word} {t : Target} (h : s.writeTarget d t = some u) :
    (t = .nframes ∧ s.busy = false ∧ u = s.withNframes (d.extractLsb' 0 32)) ∨
    (t = .cmd ∧ s.busy = false ∧ u = s.start d (freeLatency s.draws)) ∨
    (t = .status ∧ u = s.withStatus (s.status.w1c d)) ∨
    (t = .irqen ∧ u = s.withDoneIe (d.getLsbD 0)) ∨
    (t = .tlsel ∧ u = s.withTlsel (TlSel.ofWord d)) ∨
    (∃ i, t = .frame i ∧ s.busy = false ∧ u = s.withFrame (s.frame.write i.val d)) := by
  cases t <;> simp only [State.writeTarget] at h <;> try (cases h; done)
  case nframes => split at h <;> simp_all
  case cmd => split at h <;> simp_all
  case frame i => split at h <;> simp_all
  case status => simp_all
  case irqen => simp_all
  case tlsel => simp_all

/-- What the address of a row reaches. -/
theorem State.targetAt_of {s : State} {a : Addr} {t : Target} (h : Machine.targetAt a = some t) (hp : t.present s.params = true) :
    s.targetAt a = some t := by
  simp [State.targetAt, h, hp]

/-- What an address reaches is in the map and within the capacities. -/
theorem State.targetAt_some {s : State} {a : Addr} {t : Target} (h : s.targetAt a = some t) :
    Machine.targetAt a = some t ∧ t.present s.params = true := by
  simpa [State.targetAt, Option.filter_eq_some_iff] using h

/-- STATUS is reached at its address in every block. -/
theorem State.targetAt_status (s : State) : s.targetAt statusAddr = some .status :=
  State.targetAt_of (by decide) rfl

/-- One poll of `wait` answers the STATUS word, and the move stays while BUSY = 1. -/
theorem hostWait_eq (s : State) :
    hostWait s = .next ((if s.busy then s.withMoves (.wait :: s.moves) else s).answer (.read s.statusWord .okay)) := by
  unfold hostWait
  cases hb : s.busy
  · exact hostRead_word s.targetAt_status rfl
  · exact hostRead_word (State.targetAt_status _) rfl

/-- The inversion of a step: the sequencer runs its command, or the host makes its next move, or there is nothing to do. -/
theorem step_cases (s : State) :
    (∃ w n, s.seq = .running w n ∧ (n = 0 ∨ s.moves = []) ∧ step s = runCommand w s) ∨
    (s.seq = .idle ∧ s.moves = [] ∧ step s = .next s) ∨
    (∃ m ms w n, s.seq = .running w (n + 1) ∧ s.moves = m :: ms ∧
      step s = hostMove m ((s.withSeq (.running w n)).withMoves ms)) ∨
    (∃ m ms, s.seq = .idle ∧ s.moves = m :: ms ∧ step s = hostMove m (s.withMoves ms)) := by
  unfold step
  split
  · rename_i w h1
    exact .inl ⟨w, 0, h1, .inl rfl, rfl⟩
  · rename_i w n h1 h2
    exact .inl ⟨w, n + 1, h1, .inr h2, rfl⟩
  · rename_i w n m ms h1 h2
    exact .inr (.inr (.inl ⟨m, ms, w, n, h1, h2, rfl⟩))
  · rename_i h1 h2
    exact .inr (.inl ⟨h1, h2, rfl⟩)
  · rename_i m ms h1 h2
    exact .inr (.inr (.inr ⟨m, ms, h1, h2, rfl⟩))

/-- A running command with no host move to let pass is run whole. -/
theorem step_running {s : State} {w : Word} {n : Nat} (h : s.seq = .running w n) (hn : n = 0 ∨ s.moves = []) :
    step s = runCommand w s := by
  rcases step_cases s with ⟨w', n', h', -, e⟩ | ⟨h', -, -⟩ | ⟨m, ms, w', n', h', hm, -⟩ | ⟨m, ms, h', -, -⟩
  · rw [h] at h'
    cases h'
    exact e
  · rw [h] at h'
    cases h'
  · rw [h] at h'
    cases h'
    rcases hn with hn | hn
    · omega
    · rw [hn] at hm
      cases hm
  · rw [h] at h'
    cases h'

/-- While the sequencer is IDLE the host makes its next move. -/
theorem step_host_idle {s : State} {m : Move} {ms : List Move} (h : s.seq = .idle) (hm : s.moves = m :: ms) :
    step s = hostMove m (s.withMoves ms) := by
  rcases step_cases s with ⟨w', n', h', -, -⟩ | ⟨-, h', -⟩ | ⟨m', ms', w', n', h', -, -⟩ | ⟨m', ms', -, h', e⟩
  · rw [h] at h'
    cases h'
  · rw [hm] at h'
    cases h'
  · rw [h] at h'
    cases h'
  · rw [hm] at h'
    cases h'
    exact e

/-- While a running command lets host moves pass, the host makes its next move. -/
theorem step_host_running {s : State} {m : Move} {ms : List Move} {w : Word} {n : Nat} (h : s.seq = .running w (n + 1))
    (hm : s.moves = m :: ms) : step s = hostMove m ((s.withSeq (.running w n)).withMoves ms) := by
  rcases step_cases s with ⟨w', n', h', h2, -⟩ | ⟨h', -, -⟩ | ⟨m', ms', w', n', h', h2, e⟩ | ⟨m', ms', h', -, -⟩
  · rw [h] at h'
    cases h'
    rcases h2 with h2 | h2
    · omega
    · rw [hm] at h2
      cases h2
  · rw [h] at h'
    cases h'
  · rw [h] at h'
    rw [hm] at h2
    cases h'
    cases h2
    exact e
  · rw [h] at h'
    cases h'

/-- The outcome of running a command word. -/
theorem runCommand_cases (w : Word) (s : State) :
    (∃ i, decode w = .ok i ∧ runCommand w s = exec i s) ∨
    (∃ e, decode w = .error e ∧ runCommand w s = .next (s.fail .illegalCmd 0 0)) := by
  unfold runCommand
  cases h : decode w with
  | ok i => exact .inl ⟨i, rfl, rfl⟩
  | error e => exact .inr ⟨e, rfl, rfl⟩

/-- Every next state of a running command is a completion or a failure. -/
theorem runCommand_next {w : Word} {s t : State} (h : runCommand w s = .next t) : t.EndsFrom s := by
  rcases runCommand_cases w s with ⟨i, -, e⟩ | ⟨x, -, e⟩ <;> rw [e] at h
  · exact exec_next h
  · cases h
    exact ⟨s, rfl, rfl, rfl, .inr ⟨_, _, _, by simp, rfl⟩⟩

/-- The moves of the host, each as the port gives it. -/
theorem hostMove_cases {m : Move} {s t : State} (h : hostMove m s = .next t) :
    (∃ a, m = .read a ∧ s.rst = false ∧ hostRead a s = .next t) ∨
    (∃ a d, m = .write a d ∧ s.rst = false ∧ t = hostWrite a d s) ∨
    (m = .wait ∧ s.rst = false ∧
      t = (if s.busy then s.withMoves (.wait :: s.moves) else s).answer (.read s.statusWord .okay)) ∨
    (m = .waitIrq ∧ t = if s.irq then s else s.withMoves (.waitIrq :: s.moves)) ∨
    (m = .assertRst ∧ t = s.assertReset) ∨
    (m = .releaseRst ∧ t = s.withRst false) := by
  have released : ∀ r, s.whenReleased r = .next t → s.rst = false ∧ r = .next t := fun r h => by
    unfold State.whenReleased at h
    split at h
    · cases h
    · rename_i hr
      exact ⟨by simpa using hr, h⟩
  cases m with
  | read a =>
    obtain ⟨h1, h2⟩ := released _ h
    exact .inl ⟨a, rfl, h1, h2⟩
  | write a d =>
    obtain ⟨h1, h2⟩ := released _ h
    cases h2
    exact .inr (.inl ⟨a, d, rfl, h1, rfl⟩)
  | wait =>
    obtain ⟨h1, h2⟩ := released _ h
    rw [hostWait_eq] at h2
    cases h2
    exact .inr (.inr (.inl ⟨rfl, h1, rfl⟩))
  | waitIrq =>
    cases h
    exact .inr (.inr (.inr (.inl ⟨rfl, rfl⟩)))
  | assertRst =>
    cases h
    exact .inr (.inr (.inr (.inr (.inl ⟨rfl, rfl⟩))))
  | releaseRst =>
    cases h
    exact .inr (.inr (.inr (.inr (.inr ⟨rfl, rfl⟩))))

end Sys2Proof.Machine
end

