-- ==== Sys2Proof/Laws/PerInstr.lean ====
section
/-! SUPPORT. Statements about every instruction as syntax, one lemma per constructor of Instr. -/

namespace Sys2Proof.Laws.LegalEncoding

open Sys2Proof

/-- The instruction is well-formed and its command word is one that 30_encoding.md R93 does not call illegal. -/
def Statement (i : Instr) : Prop := i.wellFormed = true ∧ legalWord (encode i) = true

theorem nop : Statement .nop := ⟨rfl, by decide⟩
theorem clear : Statement .clear := ⟨rfl, by decide⟩
theorem select : Statement .select := ⟨rfl, by decide⟩
theorem serialize : Statement .serialize := ⟨rfl, by decide⟩
theorem spiral (src : Src) : Statement (.spiral src) := by
  cases src
  · exact ⟨rfl, by decide⟩
  · exact ⟨rfl, by decide⟩

end Sys2Proof.Laws.LegalEncoding
end

