-- ==== Sys2Proof/Certificates/Slice0/Obligations.lean ====
section
/-! DEFINITION. The statements for the provers, and the notions only they use. -/

namespace Sys2Proof.Claims

open Sys2Proof Sys2Proof.Machine Sys2Proof.Config

/-- A host read of the row `t` answers the word `w` with OKAY, and changes nothing else. -/
def Reads (s : State) (t : Target) (w : Word) : Prop := hostRead t.addr s = .next (s.answer (.read w .okay))

/-- A host write is refused: ERROR, and no state changes. -/
def Refuses (s : State) (a : Addr) (d : Word) : Prop := hostWrite a d s = s.answer (.write .error)

/-- The illegal command words, in the numbers of 30_encoding.md R93. -/
def IllegalWord (w : Word) : Prop :=
  5 ≤ w.toNat % 256 ∨ w.toNat / 512 ≠ 0 ∨ (w.toNat / 256 % 2 = 1 ∧ w.toNat % 256 ≠ 4)

/-- The addresses of the map, as the table of 20_memory.md R64 gives them. -/
def MappedAddress (n : Nat) : Prop :=
  n ≤ 0xE ∨ (0x100 ≤ n ∧ n ≤ 0x13F) ∨ (0x400 ≤ n ∧ n ≤ 0x7FF) ∨ (0x800 ≤ n ∧ n ≤ 0x83F) ∨
    (0x10000 ≤ n ∧ n ≤ 0x1FFFF) ∨ (0x20000 ≤ n ∧ n ≤ 0x2FFFF) ∨ (0x30000 ≤ n ∧ n ≤ 0x3FFFF) ∨
    (0x100000 ≤ n ∧ n ≤ 0x1FFFFF)

/-- The window addresses beyond the window's capacity (20_memory.md R65). -/
def BeyondCapacity (p : Params) (n : Nat) : Prop :=
  (0x10000 ≤ n ∧ n ≤ 0x1FFFF ∧ p.nMax ≤ n - 0x10000) ∨ (0x20000 ≤ n ∧ n ≤ 0x2FFFF ∧ p.nMax - 1 ≤ n - 0x20000) ∨
    (0x30000 ≤ n ∧ n ≤ 0x3FFFF ∧ p.nMax ≤ n - 0x30000) ∨ (0x100000 ≤ n ∧ n ≤ 0x1FFFFF ∧ p.outMax ≤ n - 0x100000)

/-- The addresses that take a host write: NFRAMES, CMD, STATUS, IRQEN, TLSEL and the FRAME words below N_MAX (20_memory.md
R64, R65). -/
def WritableAddress (p : Params) (n : Nat) : Prop :=
  n = 0x3 ∨ n = 0x4 ∨ n = 0x5 ∨ n = 0x6 ∨ n = 0xC ∨ (0x10000 ≤ n ∧ n ≤ 0x1FFFF ∧ n - 0x10000 < p.nMax)

/-- The rows whose reads 10_state.md R48 leaves unspecified while BUSY = 1. -/
def ResultRow : Target → Prop
  | .totbits => True
  | .outcnt => True
  | .m3cnt => True
  | .m3total => True
  | .errinfo => True
  | .pixres _ => True
  | .pixlen _ _ => True
  | .m3res _ => True
  | .out _ => True
  | _ => False

/-- The commands that read the frames. -/
def ReadsFrames : Instr → Prop
  | .nop => False
  | .clear => False
  | .select => True
  | .serialize => True
  | .spiral _ => True

/-- Everything but STATUS, ERRINFO, the sequencer and the draw counter is as before. -/
def ResultsKept (t s : State) : Prop :=
  t.hostSide = s.hostSide ∧ t.pixelSide = s.pixelSide ∧ t.serialSide = s.serialSide ∧ t.spiralSide = s.spiralSide

/-- PIXRES and PIXLEN hold, for every pixel, what SELECT writes there for the frames in memory (42_vw_encoder.md R148). -/
def PixelsHold (t s : State) : Prop :=
  ∀ p : Pixel,
    t.pixres[p] = { b := BitVec.ofNat 4 (select (s.tl p)).1, valid := true, dlen := BitVec.ofNat 32 (select (s.tl p)).2 } ∧
    ∀ b : Fin 16, t.pixlen[p][b] = if 2 ≤ b.val then BitVec.ofNat 32 (vwLen (s.tl p) b.val) else 0

/-- Every pixel's selected word size can be serialized (43_serializer.md R167). -/
def AllInRange (s : State) : Prop := ∀ p : Pixel, 4 ≤ (select (s.tl p)).1 ∧ (select (s.tl p)).1 ≤ 11

/-- The timeline loop of 41_diff_timeline.md R123 as it is written there: the last element is incremented, or a 1 appended. -/
def timelineLoop (ds : List Word) (p : Pixel) : List Nat :=
  ds.foldl (fun t d => if d.getLsbD p.val = false then t.modify (t.length - 1) (· + 1) else t ++ [1]) [0]

/-- `e_b(v)`, the number of escape words of a value (42_vw_encoder.md R144). -/
def escapes (b v : Nat) : Nat := if v = 0 then 0 else (v - 1) / (2 ^ b - 1)

/-- The rest of the run lengths of a bit sequence whose current run has colour `c` and length `n` so far. -/
def runsFrom : List Bool → Bool → Nat → List Nat
  | [], _, n => [n]
  | x :: xs, c, n => if x = c then runsFrom xs c (n + 1) else n :: runsFrom xs x 1

/-- The lengths of the maximal runs of equal bits (44_spiral_rle.md R193). -/
def runs : List Bool → List Nat
  | [] => []
  | c :: xs => runsFrom xs c 1

/-- The bit offset of pixel p's block in the assembled bitstring: the lengths of the blocks of the pixels above p
(43_serializer.md R164). -/
def blockOffset (ds : List Word) (p : Pixel) : Nat :=
  (((List.finRange 64).filter fun q => p < q).map fun q => (block (timeline ds q)).2).sum

/-- `k` steps, each answering a next state, lead from `s` to `t`. -/
def StepsTo : Nat → State → State → Prop
  | 0, s, t => s = t
  | k + 1, s, t => ∃ u, step s = .next u ∧ StepsTo k u t

end Sys2Proof.Claims

open Sys2Proof Sys2Proof.Machine Sys2Proof.Config Sys2Proof.Claims

/-! ### Encoding -/

/-- 30_encoding.md R98: the command words, and that each decodes to its command. -/
def Obligations.CommandWordsDecodeAsListed : Prop :=
  (encode .nop = 0x0000000000000000#64 ∧ encode .clear = 0x0000000000000001#64 ∧ encode .select = 0x0000000000000002#64 ∧
    encode .serialize = 0x0000000000000003#64 ∧ encode (.spiral .frames) = 0x0000000000000004#64 ∧
    encode (.spiral .diffs) = 0x0000000000000104#64) ∧
  (decode 0x0000000000000000#64 = .ok .nop ∧ decode 0x0000000000000001#64 = .ok .clear ∧
    decode 0x0000000000000002#64 = .ok .select ∧ decode 0x0000000000000003#64 = .ok .serialize ∧
    decode 0x0000000000000004#64 = .ok (.spiral .frames) ∧ decode 0x0000000000000104#64 = .ok (.spiral .diffs))

/-- Decoding and encoding are inverse: a word decodes to an instruction exactly when it is that instruction's encoding. -/
def Obligations.DecodeIsTheInverseOfEncode : Prop :=
  ∀ (w : Word) (i : Instr), decode w = .ok i ↔ encode i = w

/-- 30_encoding.md R93: the decoder refuses exactly the illegal words. -/
def Obligations.IllegalWordsAreRefused : Prop :=
  ∀ w : Word, (∃ e, decode w = .error e) ↔ IllegalWord w

/-! ### The step and command control -/

/-- The sequencer's step is the meaning of the decoded command (45_command_control.md R211). How many host moves it lets pass is
the model's choice, notes/assumptions/4.md. -/
def Obligations.StepRunsTheDecodedCommand : Prop :=
  (∀ (s : State) (w : Word) (n : Nat) (i : Instr), s.seq = .running w n → (n = 0 ∨ s.moves = []) → decode w = .ok i →
    step s = exec i s) ∧
  ∀ (s : State) (w : Nat) (i : Instr), decodeTableWord 64 w = some i →
    step (s.withFetchWord 64 w) = exec i (s.withFetchWord 64 w)

/-- 45_command_control.md R212: a started command with an illegal word fails and writes nothing else. -/
def Obligations.IllegalCommandFailsAndWritesNothingElse : Prop :=
  ∀ (s : State) (w : Word) (n : Nat), s.seq = .running w n → (n = 0 ∨ s.moves = []) → IllegalWord w →
    ∃ t, step s = .next t ∧ t.failedFrom s .illegalCmd 0 0 ∧ ResultsKept t s

/-- 45_command_control.md R210: an accepted write of CMD starts the command it encodes. -/
def Obligations.CmdWriteStartsTheCommand : Prop :=
  ∀ (s : State) (w : Word) (ms : List Move), s.seq = .idle → s.rst = false → s.moves = .write 0x4#32 w :: ms →
    ∃ t left, step s = .next t ∧ t.cmd = w ∧
      t.status = { done := false, err := false, errcode := .none, lastop := w.extractLsb' 0 8 } ∧
      t.seq = .running w left ∧ t.busy = true ∧ t.moves = ms ∧ t.port = some (.write .okay) ∧
      t = { s with cmd := t.cmd, status := t.status, seq := t.seq, moves := t.moves, port := t.port, draws := t.draws }

/-- 20_memory.md R67: what is refused and what is accepted while BUSY = 1. -/
def Obligations.WritesWhileBusy : Prop :=
  ∀ (s : State) (d : Word), s.busy = true →
    Refuses s 0x3#32 d ∧ Refuses s 0x4#32 d ∧ (∀ i : Fin 65536, Refuses s (BitVec.ofNat 32 (0x10000 + i.val)) d) ∧
    (hostWrite 0x5#32 d s).port = some (.write .okay) ∧ (hostWrite 0x6#32 d s).port = some (.write .okay) ∧
    (hostWrite 0xC#32 d s).port = some (.write .okay)

/-- 20_memory.md R64: each row has the address the table gives it, each mapped address has its row, and every other address is
reserved. -/
def Obligations.AddressMapIsOneToOne : Prop :=
  (Target.id.addr = 0x0#32 ∧ Target.params.addr = 0x1#32 ∧ Target.caps.addr = 0x2#32 ∧ Target.nframes.addr = 0x3#32 ∧
    Target.cmd.addr = 0x4#32 ∧ Target.status.addr = 0x5#32 ∧ Target.irqen.addr = 0x6#32 ∧ Target.errinfo.addr = 0x7#32 ∧
    Target.totbits.addr = 0x8#32 ∧ Target.outcnt.addr = 0x9#32 ∧ Target.m3cnt.addr = 0xA#32 ∧ Target.m3total.addr = 0xB#32 ∧
    Target.tlsel.addr = 0xC#32 ∧ Target.tldata.addr = 0xD#32 ∧ Target.tllen.addr = 0xE#32) ∧
  ((∀ p : Pixel, (Target.pixres p).addr.toNat = 0x100 + p.val) ∧
    (∀ (p : Pixel) (b : Fin 16), (Target.pixlen p b).addr.toNat = 0x400 + 16 * p.val + b.val) ∧
    (∀ i : Fin 64, (Target.spiral i).addr.toNat = 0x800 + i.val) ∧
    (∀ i : Fin 65536, (Target.frame i).addr.toNat = 0x10000 + i.val) ∧
    (∀ i : Fin 65536, (Target.diff i).addr.toNat = 0x20000 + i.val) ∧
    (∀ i : Fin 65536, (Target.m3res i).addr.toNat = 0x30000 + i.val) ∧
    ∀ i : Fin 1048576, (Target.out i).addr.toNat = 0x100000 + i.val) ∧
  (∀ t : Target, targetAt t.addr = some t) ∧
  (∀ (a : Addr) (t : Target), targetAt a = some t → t.addr = a) ∧
  ∀ a : Addr, targetAt a = none ↔ ¬MappedAddress a.toNat

/-- 20_memory.md R63: an access that is answered ERROR gives data 0 to a read and does nothing, so STATUS, ERRINFO and irq stay;
and accesses to reserved addresses and beyond the capacities are so answered (R65). -/
def Obligations.ErrorResponsesDoNothing : Prop :=
  (∀ (s t : State) (a : Addr) (d : Word), hostRead a s = .next t → t.port = some (.read d .error) →
    d = 0 ∧ t = s.answer (.read 0 .error)) ∧
  (∀ (s : State) (a : Addr) (d : Word), (hostWrite a d s).port = some (.write .error) → Refuses s a d) ∧
  ∀ (s : State) (a : Addr), (¬MappedAddress a.toNat ∨ BeyondCapacity s.params a.toNat) →
    hostRead a s = .next (s.answer (.read 0 .error)) ∧ ∀ d, Refuses s a d

/-- 20_memory.md R65: which writes are accepted, and that every other write is refused and does nothing. -/
def Obligations.WritesAreAcceptedWhereTheMapSays : Prop :=
  ∀ (s : State) (a : Addr) (d : Word),
    (¬WritableAddress s.params a.toNat → Refuses s a d) ∧
    (WritableAddress s.params a.toNat → s.busy = false → (hostWrite a d s).port = some (.write .okay))

/-- 20_memory.md R66: a read changes nothing but the port's answer and, while a command runs, the draw counter; when none runs,
reading again gives the same again. -/
def Obligations.ReadsHaveNoSideEffects : Prop :=
  ∀ (s t : State) (a : Addr), hostRead a s = .next t →
    t = { s with port := t.port, draws := t.draws } ∧ (s.busy = false → t.draws = s.draws ∧ hostRead a t = .next t)

/-- 10_state.md R39: a frame written is the frame read, and the other frames stay. -/
def Obligations.FrameWriteThenRead : Prop :=
  ∀ (s : State) (i : Fin 65536) (d : Word), s.busy = false → i.val < s.params.nMax →
    let t := hostWrite (BitVec.ofNat 32 (0x10000 + i.val)) d s
    t.port = some (.write .okay) ∧ Reads t (.frame i) d ∧ (∀ j, j ≠ i.val → t.frame.read j = s.frame.read j) ∧
      (s.frame.wf → t.frame.wf) ∧ t = { s with frame := t.frame, port := t.port, draws := t.draws }

/-- 10_state.md R49: reserved bits of NFRAMES, IRQEN and TLSEL ignore writes and read as 0; CMD keeps all 64 bits. -/
def Obligations.RegisterWritesIgnoreReservedBits : Prop :=
  ∀ (s : State) (d : Word),
    Reads (hostWrite 0x6#32 d s) .irqen (d &&& 0x1#64) ∧
    Reads (hostWrite 0xC#32 d s) .tlsel (d &&& 0xFFFFFFFF0000003F#64) ∧
    (s.busy = false → Reads (hostWrite 0x3#32 d s) .nframes (d &&& 0xFFFFFFFF#64)) ∧
    (s.busy = false → Reads (hostWrite 0x4#32 d s) .cmd d) ∧
    (hostWrite 0x6#32 d s = { s with
      doneIe := (hostWrite 0x6#32 d s).doneIe, port := some (.write .okay), draws := (hostWrite 0x6#32 d s).draws }) ∧
    (hostWrite 0xC#32 d s = { s with
      tlsel := (hostWrite 0xC#32 d s).tlsel, port := some (.write .okay), draws := (hostWrite 0xC#32 d s).draws }) ∧
    (s.busy = false → hostWrite 0x3#32 d s = { s with
      nframes := (hostWrite 0x3#32 d s).nframes, port := some (.write .okay), draws := (hostWrite 0x3#32 d s).draws })

/-- 10_state.md R26: the W1C write of STATUS, bit 1 clearing DONE and bit 2 clearing ERR and ERRCODE together; BUSY, LASTOP and
everything else stay. -/
def Obligations.StatusIsWriteOneToClear : Prop :=
  ∀ (s : State) (d : Word), let t := hostWrite 0x5#32 d s
    Reads t .status (s.statusWord &&&
      ~~~((if d.getLsbD 1 then 0x2#64 else 0) ||| (if d.getLsbD 2 then 0xF4#64 else 0))) ∧
    t.status.lastop = s.status.lastop ∧ (s.status.done = true → t.status.done = !d.getLsbD 1) ∧
    (d.getLsbD 2 = true → t.status.err = false ∧ t.status.errcode = .none) ∧
    (d.getLsbD 2 = false → t.status.err = s.status.err ∧ t.status.errcode = s.status.errcode) ∧
    t = { s with status := t.status, port := some (.write .okay), draws := t.draws }

/-- 10_state.md R21, R22, R23, R38: the constant registers, in every state, busy or not, and that they refuse writes. -/
def Obligations.ConstantRegisters : Prop :=
  ∀ s : State, s.params.wellFormed = true →
    Reads s .id 0x424156454E430007#64 ∧
    Reads s .params (if s.params.m3BoundsCheck then 0x000000000172F234#64 else 0x000000000072F234#64) ∧
    (∃ w, Reads s .caps w ∧ w.toNat % 2 ^ 32 = s.params.nMax ∧ w.toNat / 2 ^ 32 = s.params.outMax) ∧
    (∀ i : Fin 64, ∃ w, Reads s (.spiral i) w ∧ w.toNat = s.params.spiral[i].val) ∧
    ∀ d, Refuses s 0x0#32 d ∧ Refuses s 0x1#32 d ∧ Refuses s 0x2#32 d ∧
      ∀ i : Fin 64, Refuses s (BitVec.ofNat 32 (0x800 + i.val)) d

/-- 10_state.md R48: while BUSY = 1 a read of a result row is a free draw, fresh at each read; the other rows read the same
whatever the draws are. The draw counter is the model's own (notes/assumptions/3.md). -/
def Obligations.ResultReadsWhileBusyAreDraws : Prop :=
  ∀ (s : State) (t : Target), s.busy = true → t.present s.params = true →
    (ResultRow t → hostRead t.addr s = .next (s.answer (.read (freeWord s.draws t.addr) .okay)).draw) ∧
    (¬ResultRow t → ∀ (n : Nat) (u : State), hostRead t.addr s = .next u →
      hostRead t.addr { s with draws := n } = .next { u with draws := n })

/-- 10_state.md R26, 60_exceptions.md R231: STATUS reads its fields at their places, busy or not, with the error codes as numbers;
and 10_state.md R28 to R32, R36, R37, R41, R42: with no command running, the result registers read as their layouts say, and the
windows OUT and M3RES read the words held below their counts. Beyond its count a window reads the free word of
notes/assumptions/3.md, the model's form of an unspecified word. -/
def Obligations.ResultRegisterLayouts : Prop :=
  (∀ s : State, ∃ w, Reads s .status w ∧
    w.toNat = s.busy.toNat + 2 * s.status.done.toNat + 4 * s.status.err.toNat + 16 * s.status.errcode.code.toNat +
      256 * s.status.lastop.toNat) ∧
  (ErrCode.none.code.toNat = 0 ∧ ErrCode.illegalCmd.code.toNat = 1 ∧ ErrCode.nframesRange.code.toNat = 2 ∧
    ErrCode.bRange.code.toNat = 3 ∧ ErrCode.outOverflow.code.toNat = 4 ∧ ErrCode.m3BRange.code.toNat = 5) ∧
  ∀ s : State, s.busy = false →
    (∀ i : Fin 1048576, i.val < s.params.outMax →
      (∀ w, i.val < s.outcnt.toNat → s.out.read i.val = some w → Reads s (.out i) w) ∧
      (s.outcnt.toNat ≤ i.val → Reads s (.out i) (freeWord s.draws (Target.out i).addr))) ∧
    (∀ i : Fin 65536, i.val < s.params.nMax →
      (∀ w, i.val < s.m3cnt.toNat → s.m3res.read i.val = some w → Reads s (.m3res i) w) ∧
      (s.m3cnt.toNat ≤ i.val → Reads s (.m3res i) (freeWord s.draws (Target.m3res i).addr))) ∧
    (∃ w, Reads s .totbits w ∧ w.toNat = s.totbits.toNat) ∧ (∃ w, Reads s .outcnt w ∧ w.toNat = s.outcnt.toNat) ∧
    (∃ w, Reads s .m3cnt w ∧ w.toNat = s.m3cnt.toNat) ∧ (∃ w, Reads s .m3total w ∧ w.toNat = s.m3total.toNat) ∧
    (∃ w, Reads s .errinfo w ∧ w.toNat = s.errinfo.index.toNat + 2 ^ 32 * s.errinfo.b.toNat) ∧
    (∀ p : Pixel, ∃ w, Reads s (.pixres p) w ∧
      w.toNat = s.pixres[p].b.toNat + 2 ^ 8 * s.pixres[p].valid.toNat + 2 ^ 32 * s.pixres[p].dlen.toNat) ∧
    ∀ (p : Pixel) (b : Fin 16), ∃ w, Reads s (.pixlen p b) w ∧ w.toNat = s.pixlen[p][b].toNat

/-- 10_state.md R34, R35: the timeline read-outs. With fewer than two frames every timeline is `[0]` (41_diff_timeline.md R125).
That TLDATA and TLLEN read no frame then, and so answer over an unwritten FRAME[0] too, is the model's inference
(notes/assumptions/5.md). -/
def Obligations.TimelineReadouts : Prop :=
  ∀ s : State, s.params.wellFormed = true →
    (¬s.framesFit → Reads s .tldata 0 ∧ Reads s .tllen 0) ∧
    (s.nframes.toNat < 2 → Reads s .tllen 1 ∧ (s.tlsel.idx = 0 → Reads s .tldata 0x0000000100000000#64) ∧
      (s.tlsel.idx ≠ 0 → Reads s .tldata 0)) ∧
    (s.inputReady →
      (∃ w, Reads s .tllen w ∧ w.toNat = (s.tl s.tlsel.pixel).length) ∧
      (∀ v, (s.tl s.tlsel.pixel)[s.tlsel.idx.toNat]? = some v → ∃ w, Reads s .tldata w ∧ w.toNat = 2 ^ 32 + v) ∧
      ((s.tl s.tlsel.pixel).length ≤ s.tlsel.idx.toNat → Reads s .tldata 0))

/-- 10_state.md R40: the DIFF window. -/
def Obligations.DiffReadout : Prop :=
  ∀ (s : State) (i : Fin 65536), i.val + 1 < s.params.nMax →
    (¬(s.framesFit ∧ i.val + 1 < s.nframes.toNat) → Reads s (.diff i) 0) ∧
    ∀ f g, s.framesFit → i.val + 1 < s.nframes.toNat → s.frame.read i.val = some f → s.frame.read (i.val + 1) = some g →
      Reads s (.diff i) (f ^^^ g)

/-- 70_reset_and_hazards.md R269: a command that reads the frames faults exactly when one of them is unwritten, and NFRAMES = 0
reads none. 10_state.md R50: so do the read-outs DIFF and TLDATA when they read an unwritten frame. That FRAME and TLLEN do so too,
and which frame the fault names, is the model's choice (notes/assumptions/5.md). No other read faults. -/
def Obligations.UnwrittenFramesFault : Prop :=
  (∀ (i : Instr) (s : State), ReadsFrames i → s.framesFit →
    ((∃ j, exec i s = .fault (.uninitFrame j)) ↔ ∃ j, j < s.nframes.toNat ∧ s.frame.read j = none) ∧
    ∀ j, exec i s = .fault (.uninitFrame j) → j < s.nframes.toNat ∧ s.frame.read j = none) ∧
  (∀ (s : State) (i : Fin 65536), i.val + 1 < s.params.nMax →
    ((∃ j, hostRead (Target.diff i).addr s = .fault (.uninitFrame j)) ↔
      s.framesFit ∧ i.val + 1 < s.nframes.toNat ∧ (s.frame.read i.val = none ∨ s.frame.read (i.val + 1) = none))) ∧
  (∀ (s : State) (t : Target), t = .tldata ∨ t = .tllen →
    ((∃ j, hostRead t.addr s = .fault (.uninitFrame j)) ↔
      s.framesFit ∧ 2 ≤ s.nframes.toNat ∧ ∃ j, j < s.nframes.toNat ∧ s.frame.read j = none)) ∧
  (∀ (s : State) (i : Fin 65536), i.val < s.params.nMax →
    (hostRead (Target.frame i).addr s = .fault (.uninitFrame i.val) ↔ s.frame.read i.val = none)) ∧
  ∀ (s : State) (a : Addr) (x : Fault), hostRead a s = .fault x →
    (∃ j, x = .uninitFrame j ∧ s.frame.read j = none) ∧
      (a = Target.tldata.addr ∨ a = Target.tllen.addr ∨ ∃ i, a = (Target.diff i).addr ∨ a = (Target.frame i).addr)

/-! ### The commands -/

/-- 45_command_control.md R214: NOP completes in every state; it writes ERRINFO and the completion alone. -/
def Obligations.NopCompletes : Prop :=
  encode .nop = 0#64 ∧ ∀ s : State, ∃ t, exec .nop s = .next t ∧ t.completedFrom s ∧ ResultsKept t s ∧ t.irq = s.doneIe

/-- 45_command_control.md R215: CLEAR completes in every state; it zeroes the result state and nothing else: every word of FRAME,
OUT and M3RES reads as before. -/
def Obligations.ClearCompletes : Prop :=
  encode .clear = 1#64 ∧ ∀ s : State, ∃ t, exec .clear s = .next t ∧ t.completedFrom s ∧
    (∀ p : Pixel, t.pixres[p] = { b := 0, valid := false, dlen := 0 } ∧ ∀ b : Fin 16, t.pixlen[p][b] = 0) ∧
    t.totbits = 0 ∧ t.outcnt = 0 ∧ t.m3cnt = 0 ∧ t.m3total = 0 ∧ t.hostSide = s.hostSide ∧
    (∀ i, t.out.read i = s.out.read i) ∧ ∀ i, t.m3res.read i = s.m3res.read i

/-- 42_vw_encoder.md R148: SELECT completes on a ready input, writes PIXRES and PIXLEN for every pixel, and no other result: every
word of FRAME, OUT and M3RES stays. With NFRAMES = 0 or 1 every pixel gets B = 2, DLEN = 2. -/
def Obligations.SelectCompletes : Prop :=
  ∀ s : State, s.inputReady → ∃ t, exec .select s = .next t ∧ t.completedFrom s ∧ PixelsHold t s ∧
    (s.nframes.toNat ≤ 1 → ∀ p : Pixel, t.pixres[p] = { b := 2, valid := true, dlen := 2 }) ∧
    t.hostSide = s.hostSide ∧ t.serialSide = s.serialSide ∧ t.spiralSide = s.spiralSide

/-- With NFRAMES > N_MAX the commands that read the frames fail, and write no result but the count and words that the parameter of
notes/assumptions/20.md gives to 70_reset_and_hazards.md R268. With the parameter `false`, and for SELECT always, they write nothing
else, as 45_command_control.md R213 says. With it `true`, OUTCNT is 0 after SERIALIZE and M3CNT after SPIRAL, and every word of OUT
or M3RES reads as the free word. Which value a block has is the model's choice. -/
def Obligations.NframesRangeFails : Prop :=
  ∀ (i : Instr) (s : State), ReadsFrames i → s.params.nMax < s.nframes.toNat →
    ∃ t, exec i s = .next t ∧ t.failedFrom s .nframesRange s.nframes 0 ∧ t.hostSide = s.hostSide ∧ t.pixelSide = s.pixelSide ∧
      t.totbits = s.totbits ∧ t.m3total = s.m3total ∧
      (s.params.nframesRangeZeroes = false ∨ i = .select → ResultsKept t s) ∧
      (s.params.nframesRangeZeroes = true →
        (i = .serialize → t.outcnt = 0 ∧ t.spiralSide = s.spiralSide ∧
          ∀ j : Fin 1048576, j.val < s.params.outMax → Reads t (.out j) (freeWord t.draws (Target.out j).addr)) ∧
        ((∃ src, i = .spiral src) → t.m3cnt = 0 ∧ t.serialSide = s.serialSide ∧
          ∀ j : Fin 65536, j.val < s.params.nMax → Reads t (.m3res j) (freeWord t.draws (Target.m3res j).addr)))

/-- 43_serializer.md R168, R166: SERIALIZE completes when every word size is in range and the output fits. N and T are those of
`assemble`. Every word of OUT beyond the trailing zero word reads as before, and so does every word of FRAME and M3RES. -/
def Obligations.SerializeCompletes : Prop :=
  ∀ s : State, s.params.wellFormed = true → s.inputReady → 2 ≤ s.nframes.toNat → AllInRange s →
    ((assemble s.diffList).2 + 63) / 64 + 1 ≤ s.params.outMax →
    ∃ t, exec .serialize s = .next t ∧ t.completedFrom s ∧ PixelsHold t s ∧
      t.totbits = BitVec.ofNat 32 (assemble s.diffList).2 ∧ t.outcnt.toNat = ((assemble s.diffList).2 + 63) / 64 + 1 ∧
      (∀ i, i < ((assemble s.diffList).2 + 63) / 64 →
        t.out.read i = some (BitVec.ofNat 64 ((assemble s.diffList).1 >>> (64 * i)))) ∧
      t.out.read (((assemble s.diffList).2 + 63) / 64) = some 0 ∧
      (∀ i, ((assemble s.diffList).2 + 63) / 64 < i → t.out.read i = s.out.read i) ∧
      t.hostSide = s.hostSide ∧ t.spiralSide = s.spiralSide

/-- 43_serializer.md R169: SERIALIZE of an empty diff sequence completes with the single terminating zero word. -/
def Obligations.SerializeOfNoDiffsCompletes : Prop :=
  ∀ s : State, s.inputReady → s.nframes.toNat < 2 →
    ∃ t, exec .serialize s = .next t ∧ t.completedFrom s ∧ PixelsHold t s ∧ t.totbits = 0 ∧ t.outcnt = 1 ∧
      t.out.read 0 = some 0 ∧ (∀ i, i ≠ 0 → t.out.read i = s.out.read i) ∧
      t.hostSide = s.hostSide ∧ t.spiralSide = s.spiralSide

/-- 43_serializer.md R167: SERIALIZE fails with the highest-indexed pixel whose word size cannot be serialized. -/
def Obligations.SerializeReportsHighestViolation : Prop :=
  ∀ (s : State) (p : Pixel), s.inputReady → 2 ≤ s.nframes.toNat →
    ((select (s.tl p)).1 < 4 ∨ 11 < (select (s.tl p)).1) →
    (∀ q : Pixel, p < q → 4 ≤ (select (s.tl q)).1 ∧ (select (s.tl q)).1 ≤ 11) →
    ∃ t, exec .serialize s = .next t ∧
      t.failedFrom s .bRange (BitVec.ofNat 32 p.val) (BitVec.ofNat 4 (select (s.tl p)).1) ∧ PixelsHold t s ∧
      t.totbits = 0 ∧ t.outcnt = 0 ∧ t.hostSide = s.hostSide ∧ t.spiralSide = s.spiralSide

/-- 43_serializer.md R170, first sentence, and R168: SERIALIZE fails when its K + 1 words do not fit in OUT. -/
def Obligations.SerializeOverflowFails : Prop :=
  ∀ s : State, s.inputReady → 2 ≤ s.nframes.toNat → AllInRange s →
    s.params.outMax < ((assemble s.diffList).2 + 63) / 64 + 1 →
    ∃ t, exec .serialize s = .next t ∧
      t.failedFrom s .outOverflow (BitVec.ofNat 32 (((assemble s.diffList).2 + 63) / 64 + 1)) 0 ∧ PixelsHold t s ∧
      t.totbits = BitVec.ofNat 32 (assemble s.diffList).2 ∧ t.outcnt = 0 ∧ t.hostSide = s.hostSide ∧
      t.spiralSide = s.spiralSide

/-- 44_spiral_rle.md R197, R195, R196: SPIRAL completes on a ready input when the bounds check is off or no mask violates it.
Every word of M3RES beyond M3CNT reads as before, and so does every word of FRAME and OUT. -/
def Obligations.SpiralCompletes : Prop :=
  ∀ (src : Src) (s : State), s.params.wellFormed = true → s.inputReady →
    let ms := selectMasks src s.frameList
    (s.params.m3BoundsCheck = false ∨ ∀ m ∈ ms, 4 ≤ (m3Select s.params m).1 ∧ (m3Select s.params m).1 ≤ 11) →
    ∃ t, exec (.spiral src) s = .next t ∧ t.completedFrom s ∧ t.m3cnt.toNat = ms.length ∧
      (src = .frames → t.m3cnt = s.nframes) ∧ (src = .diffs → t.m3cnt.toNat = s.nframes.toNat - 1) ∧
      t.m3total = BitVec.ofNat 32 (ms.map fun m => (m3Select s.params m).2).sum ∧
      (∀ i m, ms[i]? = some m → ∃ w, t.m3res.read i = some w ∧
        w.toNat = (m3Select s.params m).1 + 2 ^ 32 * (m3Select s.params m).2) ∧
      (∀ i, ms.length ≤ i → t.m3res.read i = s.m3res.read i) ∧
      t.hostSide = s.hostSide ∧ t.pixelSide = s.pixelSide ∧ t.serialSide = s.serialSide

/-- 44_spiral_rle.md R198: with M3_BOUNDS_CHECK, SPIRAL fails with the lowest-indexed mask whose word size is out of [4, 11];
without it, SPIRAL never fails so. -/
def Obligations.SpiralBoundsCheck : Prop :=
  ∀ (src : Src) (s : State), s.inputReady →
    let ms := selectMasks src s.frameList
    (∀ i m, s.params.m3BoundsCheck = true → ms[i]? = some m → (m3Select s.params m).1 < 4 →
      (∀ j m', j < i → ms[j]? = some m' → 4 ≤ (m3Select s.params m').1) →
      ∃ t, exec (.spiral src) s = .next t ∧
        t.failedFrom s .m3BRange (BitVec.ofNat 32 i) (BitVec.ofNat 4 (m3Select s.params m).1) ∧
        t.m3cnt = 0 ∧ t.m3total = 0 ∧ t.hostSide = s.hostSide ∧ t.pixelSide = s.pixelSide ∧ t.serialSide = s.serialSide) ∧
    (s.params.m3BoundsCheck = false → ∃ t, exec (.spiral src) s = .next t ∧ t.status.err = s.status.err ∧
      t.status.errcode = s.status.errcode)

/-- 20_memory.md R69: what no command writes, and what each command does not write, whatever it ends in. -/
def Obligations.CommandsWriteOnlyTheirOwnResults : Prop :=
  ∀ (i : Instr) (s t : State), exec i s = .next t →
    t.hostSide = s.hostSide ∧ t.status.lastop = s.status.lastop ∧ t.status.done = true ∧ t.busy = false ∧
    ((i = .nop ∨ ∃ src, i = .spiral src) → t.pixelSide = s.pixelSide) ∧
    ((i = .nop ∨ i = .select ∨ ∃ src, i = .spiral src) → t.serialSide = s.serialSide) ∧
    ((i = .nop ∨ i = .select ∨ i = .serialize) → t.spiralSide = s.spiralSide)

/-- 45_command_control.md R216: what a command leaves in its results is a function of the parameters, NFRAMES and the frames
below NFRAMES; STATUS after it is one of STATUS before it as well. -/
def Obligations.ResultsAreAFunctionOfTheInput : Prop :=
  ∀ (i : Instr) (s s' t : State), s'.params = s.params → s'.nframes = s.nframes → s'.status = s.status →
    (∀ j, j < s.nframes.toNat → s'.frame.read j = s.frame.read j) → exec i s = .next t →
    ∃ t', exec i s' = .next t' ∧ t'.status = t.status ∧ t'.errinfo = t.errinfo ∧
      (s.framesFit →
        ((i = .select ∨ i = .serialize ∨ i = .clear) → t'.pixelSide = t.pixelSide) ∧
        ((i = .serialize ∨ i = .clear) → t'.totbits = t.totbits ∧ t'.outcnt = t.outcnt ∧
          ∀ j, j < t.outcnt.toNat → t'.out.read j = t.out.read j) ∧
        (((∃ src, i = .spiral src) ∨ i = .clear) → t'.m3cnt = t.m3cnt ∧ t'.m3total = t.m3total ∧
          ∀ j, j < t.m3cnt.toNat → t'.m3res.read j = t.m3res.read j))

/-! ### Diffs and timelines -/

/-- 41_diff_timeline.md R120: the diff sequence. -/
def Obligations.DiffSequenceIsPairwiseXor : Prop :=
  ∀ fs : List Word, (diffs fs).length = fs.length - 1 ∧
    ∀ i f g, fs[i]? = some f → fs[i + 1]? = some g → (diffs fs)[i]? = some (f ^^^ g)

/-- 41_diff_timeline.md R123: the timeline is what the loop written there makes. -/
def Obligations.TimelineIsTheLoopOfTheSpec : Prop :=
  ∀ (ds : List Word) (p : Pixel), timeline ds p = timelineLoop ds p

/-- 41_diff_timeline.md R124: the properties of a timeline. -/
def Obligations.TimelineProperties : Prop :=
  ∀ (ds : List Word) (p : Pixel),
    (timeline ds p).sum = ds.length ∧
    (timeline ds p).length = 1 + ds.countP (fun d => d.getLsbD p.val) ∧
    (timeline ds p)[0]? = some (ds.takeWhile fun d => !d.getLsbD p.val).length ∧
    (∀ v ∈ (timeline ds p).tail, 1 ≤ v) ∧ ∀ v ∈ timeline ds p, v ≤ ds.length

/-- 41_diff_timeline.md R127: a pixel's timeline depends on its own bit of the diffs and on no other pixel. -/
def Obligations.PixelLanesAreIndependent : Prop :=
  ∀ (p : Pixel) (ds ds' : List Word), ds.map (fun d => d.getLsbD p.val) = ds'.map (fun d => d.getLsbD p.val) →
    timeline ds p = timeline ds' p

/-- 30_encoding.md R95, R96: the frame layout. -/
def Obligations.FrameLayout : Prop :=
  (∀ (lit : Fin 8 → Fin 8 → Bool) (x y : Fin 8), (frameMask lit).getLsbD (bitIndex x y) = lit x y) ∧
  (∀ x y : Fin 8, bitIndex x y = 56 - 8 * y.val + x.val) ∧
  ∀ (p : Pixel) (x y : Fin 8), bitIndex x y = p.val ↔ x.val = p.val % 8 ∧ y.val = 7 - p.val / 8

/-! ### The variable-width code -/

/-- 42_vw_encoder.md R144: the closed form of the code of one value, and of the encoded length. -/
def Obligations.ValueCodeClosedForm : Prop :=
  ∀ b : Nat, 2 ≤ b → b ≤ 15 →
    (∀ v : Nat, vwWords [v] b = List.replicate (escapes b v) 0 ++ [v - escapes b v * (2 ^ b - 1)] ∧
      (1 ≤ v → 1 ≤ v - escapes b v * (2 ^ b - 1) ∧ v - escapes b v * (2 ^ b - 1) ≤ 2 ^ b - 1)) ∧
    ∀ t : List Nat, vwLen t b = b * (t.map fun v => 1 + escapes b v).sum

/-- 42_vw_encoder.md R145: decoding gives the list back exactly when every element is at least 1. What decoding makes of words
that end inside an element is the model's choice (notes/assumptions/19.md); those of a list with a last element of 0 do so. -/
def Obligations.CodeRoundTripsExactlyWithoutZeros : Prop :=
  ∀ b : Nat, 2 ≤ b → b ≤ 15 → ∀ t : List Nat, vwDecode b (vwWords t b) = t ↔ ∀ v ∈ t, 1 ≤ v

/-- 42_vw_encoder.md R142: the encoded string read as a number, and where each word stands in it. -/
def Obligations.StringReadAsNumber : Prop :=
  ∀ b : Nat, 2 ≤ b → b ≤ 15 → ∀ t : List Nat,
    (vwString t b).length = vwLen t b ∧ stringValue (vwString t b) = packWords b (vwWords t b) ∧
    ∀ k w, (vwWords t b)[k]? = some w → stringValue (vwString t b) / 2 ^ (b * k) % 2 ^ b = w

/-- 42_vw_encoder.md R146, 44_spiral_rle.md R194: the selected word size is the largest of minimal length in its range. -/
def Obligations.SelectionIsLargestOfMinimalLength : Prop :=
  (∀ t : List Nat, 2 ≤ (select t).1 ∧ (select t).1 ≤ 15 ∧ (select t).2 = vwLen t (select t).1 ∧
    ∀ b, 2 ≤ b → b ≤ 15 → (select t).2 ≤ vwLen t b ∧ (vwLen t b = (select t).2 → b ≤ (select t).1)) ∧
  ∀ (p : Params) (m : Word), 2 ≤ (m3Select p m).1 ∧ (m3Select p m).1 ≤ 7 ∧ (m3Select p m).2 = rleLen p m (m3Select p m).1 ∧
    ∀ b, 2 ≤ b → b ≤ 7 → (m3Select p m).2 ≤ rleLen p m b ∧ (rleLen p m b = (m3Select p m).2 → b ≤ (m3Select p m).1)

/-! ### Blocks, assembly and output words -/

/-- 43_serializer.md R161, R163: a block in range holds the 3-bit field, every word but the last, and the zero sentinel word as
its top b bits. -/
def Obligations.BlockHoldsFieldWordsAndSentinel : Prop :=
  ∀ t : List Nat, t ≠ [] → 4 ≤ (select t).1 → (select t).1 ≤ 11 →
    let b := (select t).1
    (block t).2 = (select t).2 + 3 ∧ (block t).1 % 8 = b - 4 ∧
    (∀ k w, (vwWords t b)[k]? = some w → k + 1 < (vwWords t b).length → (block t).1 / 2 ^ (3 + b * k) % 2 ^ b = w) ∧
    (block t).1 < 2 ^ ((block t).2 - b)

/-- 43_serializer.md R164, R165: the assembled number holds each pixel's block at the offset of the blocks of the pixels above,
and TOTBITS is the sum of the lengths, at least 448. -/
def Obligations.AssemblyHoldsEveryBlock : Prop :=
  ∀ ds : List Word, (∀ p : Pixel, 4 ≤ (select (timeline ds p)).1 ∧ (select (timeline ds p)).1 ≤ 11) →
    (assemble ds).2 = ((List.finRange 64).map fun p => (select (timeline ds p)).2 + 3).sum ∧ 448 ≤ (assemble ds).2 ∧
    (assemble ds).1 < 2 ^ (assemble ds).2 ∧
    ∀ p : Pixel, (assemble ds).1 / 2 ^ blockOffset ds p % 2 ^ (block (timeline ds p)).2 = (block (timeline ds p)).1

/-- 43_serializer.md R166: the output words are the 64-bit digits of N, least significant first, and one zero word. -/
def Obligations.OutputWordsSpellTheNumber : Prop :=
  ∀ n t : Nat, n < 2 ^ t →
    (outWords n t).length = (t + 63) / 64 + 1 ∧ (outWords n t).getLast? = some 0 ∧
    streamValue (Memory.writeFrom [] 0 (outWords n t)) ((t + 63) / 64) = n

/-- 43_serializer.md R171: after a SERIALIZE that completes without error, the stream in OUT holds for every pixel, at its
offset, the 3-bit field from which b is recovered, and the b bits read last of the pixel's block are zero; the last word is
zero. -/
def Obligations.SerializedStreamHasFieldsAndSentinels : Prop :=
  ∀ s t : State, s.params.wellFormed = true → 2 ≤ s.nframes.toNat → exec .serialize s = .next t →
    t.status.err = false →
    let n := streamValue t.out t.outcnt.toNat
    t.out.read (t.outcnt.toNat - 1) = some 0 ∧
    ∀ p : Pixel, let b := (select (s.tl p)).1
      let off := blockOffset s.diffList p
      n / 2 ^ off % 8 + 4 = b ∧ n / 2 ^ (off + 3 + (select (s.tl p)).2 - b) % 2 ^ b = 0

/-- 43_serializer.md R170 and 92_eei_decisions.md D37: the length of the assembled bitstring is bounded, so that TOTBITS fits 32
bits for every block and the default block cannot overflow. -/
def Obligations.AssembledLengthIsBounded : Prop :=
  ∀ ds : List Word,
    (assemble ds).2 ≤ 64 * (3 + 4 * (ds.length + 1 + ds.length / 15)) ∧
    (ds.length ≤ 65535 → (assemble ds).2 < 2 ^ 32) ∧ (ds.length ≤ 8191 → ((assemble ds).2 + 63) / 64 + 1 ≤ 34956)

/-! ### The spiral run-length code -/

/-- 44_spiral_rle.md R190: the permuted sequence has bit i of the mask at position SPIRAL[i]. -/
def Obligations.SpiralPermutesTheMask : Prop :=
  ∀ (p : Params) (m : Word), p.wellFormed = true → (spiralPerm p m).length = 64 ∧
    ∀ i : Fin 64, (spiralPerm p m)[p.spiral[i].val]? = some (m.getLsbD i.val)

/-- 44_spiral_rle.md R193: the number of code words from the run lengths, and its corner case b = 7. -/
def Obligations.RunLengthClosedForm : Prop :=
  ∀ (p : Params) (m : Word), p.wellFormed = true →
    (runs (spiralPerm p m)).sum = 64 ∧
    (∀ b : Nat, 2 ≤ b → b ≤ 7 →
      (rleWords p m b).length = ((runs (spiralPerm p m)).map fun r => 1 + (r - 1) / (2 ^ b - 1)).sum) ∧
    rleLen p m 7 = 7 * (runs (spiralPerm p m)).length

/-- 44_spiral_rle.md R195: the minimal length of a mask is at most 128, so LEN fits its 16 bits. -/
def Obligations.MinimalLengthsAreAtMost128 : Prop :=
  ∀ (p : Params) (m : Word), (m3Select p m).2 ≤ 128

/-! ### Reset, the invariant and the whole machine -/

/-- 70_reset_and_hazards.md R260, R261: asserting `rst` leaves every piece of state at its reset value, from every state, a
running command abandoned; the parameters stay (R272). That `rst` stays asserted and the host keeps its moves is the model's choice
(notes/assumptions/9.md). -/
def Obligations.ResetLeavesTheResetState : Prop :=
  ∀ (s : State) (ms : List Move), (s.seq = .idle ∨ ∃ w n, s.seq = .running w (n + 1)) → s.moves = .assertRst :: ms →
    ∃ t, step s = .next t ∧ t.seq = .idle ∧ t.nframes = 0 ∧ t.cmd = 0 ∧ t.statusWord = 0 ∧ t.doneIe = false ∧
      t.errinfo = { index := 0, b := 0 } ∧ t.totbits = 0 ∧ t.outcnt = 0 ∧ t.m3cnt = 0 ∧ t.m3total = 0 ∧
      t.tlsel = { pix := 0, idx := 0 } ∧
      (∀ p : Pixel, t.pixres[p] = { b := 0, valid := false, dlen := 0 } ∧ ∀ b : Fin 16, t.pixlen[p][b] = 0) ∧
      (∀ i, t.frame.read i = none ∧ t.out.read i = none ∧ t.m3res.read i = none) ∧ t.irq = false ∧
      t.params = s.params ∧ t.rst = true ∧ t.moves = ms

/-- 70_reset_and_hazards.md R261: what the read-outs give right after reset. -/
def Obligations.ReadoutsAfterReset : Prop :=
  Reads State.reset .tldata 0x0000000100000000#64 ∧ Reads State.reset .tllen 1 ∧ Reads State.reset .status 0 ∧
    Reads State.reset .id 0x424156454E430007#64 ∧ Reads State.reset .params 0x000000000072F234#64 ∧
    Reads State.reset .caps 0x0001000000002000#64 ∧ State.reset.irq = false ∧
    ∀ i : Fin 65536, i.val + 1 < 8192 → Reads State.reset (.diff i) 0

/-- The invariant holds right after reset. -/
def Obligations.InvariantHoldsAtReset : Prop := State.reset.Inv

/-- Every step keeps the invariant. -/
def Obligations.EveryStepKeepsTheInvariant : Prop :=
  ∀ s t : State, s.Inv → step s = .next t → t.Inv

/-- 70_reset_and_hazards.md R272: no step changes the parameters, reset among them. -/
def Obligations.ParametersNeverChange : Prop :=
  ∀ s t : State, step s = .next t → t.params = s.params

/-- 20_memory.md R70: until a running command completes, no step changes a result, nor the command's input. -/
def Obligations.ResultsArePublishedAtCompletion : Prop :=
  ∀ s t : State, s.busy = true → step s = .next t → t.busy = true →
    t.pixelSide = s.pixelSide ∧ t.serialSide = s.serialSide ∧ t.spiralSide = s.spiralSide ∧ t.errinfo = s.errinfo ∧
      t.nframes = s.nframes ∧ t.cmd = s.cmd ∧ (∀ i, t.frame.read i = s.frame.read i) ∧ t.status.lastop = s.status.lastop

/-- 45_command_control.md R211, 70_reset_and_hazards.md R260: a running command ends in its completion, with DONE, or is
abandoned by reset, without; nothing else ends it. That `rst` stays asserted is the model's choice (notes/assumptions/9.md). -/
def Obligations.OnlyCompletionOrResetEndsACommand : Prop :=
  ∀ s t : State, s.busy = true → step s = .next t → t.busy = false →
    (t.status.done = true ∧ t.hostSide = s.hostSide) ∨
    (∃ ms, s.moves = .assertRst :: ms ∧ t.statusWord = 0 ∧ t.irq = false ∧ t.rst = true)

/-- 45_command_control.md R211: a started command ends within one step more than the host moves it lets pass, as long as the
machine goes on. The bound is the model's own (notes/assumptions/4.md). -/
def Obligations.StartedCommandsEnd : Prop :=
  ∀ (n : Nat) (s t : State) (w : Word), s.seq = .running w n → StepsTo (n + 1) s t →
    ∃ (k : Nat) (u : State), k ≤ n + 1 ∧ StepsTo k s u ∧ u.busy = false

/-- 10_state.md R47, 60_exceptions.md R237: the irq line, and what raises and lowers it: every completion, that of an
illegal word too. -/
def Obligations.IrqFollowsDoneAndEnable : Prop :=
  (∀ s : State, s.irq = (s.statusWord.getLsbD 1 && s.irqenWord.getLsbD 0)) ∧
  (∀ (w : Word) (s t : State), runCommand w s = .next t → t.irq = s.doneIe) ∧
  (∀ (s : State) (d : Word), d.getLsbD 1 = true → (hostWrite 0x5#32 d s).irq = false) ∧
  (∀ (s : State) (w : Word), s.busy = false → (hostWrite 0x4#32 w s).irq = false) ∧
  State.reset.irq = false ∧ ∀ s : State, s.assertReset.irq = false

/-! ### The host's side -/

/-- 30_encoding.md R97: `wait` reads STATUS, once more while BUSY = 1 and for the last time when BUSY = 0. That a wait
is a move of the host that stays is the model's choice (notes/assumptions/13.md). -/
def Obligations.WaitPollsUntilIdle : Prop :=
  ∀ (s : State) (ms : List Move), s.rst = false → s.moves = .wait :: ms →
    (s.seq = .idle → ∃ w : Word, step s = .next { s with moves := ms, port := some (.read w .okay) } ∧
      w = s.statusWord ∧ w.getLsbD 0 = false) ∧
    ∀ c n, s.seq = .running c (n + 1) → ∃ w : Word,
      step s = .next { s with seq := .running c n, port := some (.read w .okay) } ∧ w = s.statusWord ∧ w.getLsbD 0 = true

/-- 93_implementation_defined.md U7: while `rst` is asserted the host has no transaction, and releasing it changes nothing else.
That the step is refused is the model's choice (notes/assumptions/6.md). -/
def Obligations.HostUnderReset : Prop :=
  ∀ (s : State) (m : Move) (ms : List Move), s.rst = true → s.seq = .idle → s.moves = m :: ms →
    (((∃ a, m = .read a) ∨ (∃ a d, m = .write a d) ∨ m = .wait) → step s = .refused .transactionUnderReset) ∧
    (m = .releaseRst → step s = .next { s with rst := false, moves := ms })
end

