-- ==== Sys2Proof/Tests/Slice0.lean ====
section
/-! SUPPORT. Tests of single steps, with expected results from the spec's tables and vectors (spec/95_test_vectors.md unless a
comment says otherwise), and for every statement with hypotheses a witness that meets them. -/

namespace Sys2Proof.Tests

open Sys2Proof Sys2Proof.Machine Sys2Proof.Config Sys2Proof.Claims

/-- A state with the frames `fs` written and NFRAMES their number. -/
def holding (fs : List Word) : State :=
  { State.reset with nframes := BitVec.ofNat 32 fs.length, frame := Memory.writeFrom [] 0 fs }

/-- A block built with other parameters. -/
def builtWith (p : Params) (s : State) : State := { s with params := p }

/-- The outcome is a next state of which `f` holds. -/
def gives (f : State → Bool) : Result → Bool
  | .next t => f t
  | .fault _ => false
  | .refused _ => false

/-- The outcome is this fault. -/
def faults (x : Fault) : Result → Bool
  | .next _ => false
  | .fault y => decide (x = y)
  | .refused _ => false

/-- The outcome is this refusal. -/
def refuses (x : Refusal) : Result → Bool
  | .next _ => false
  | .fault _ => false
  | .refused y => decide (x = y)

/-- STATUS and ERRINFO read so after the command word `w` runs on `s`. -/
def endsWith (s : State) (w : Nat) (status errinfo : Word) : Bool :=
  gives (fun t => decide (t.statusWord = status) && decide (t.errinfo.word = errinfo)) (step (s.withFetchWord 64 w))

/-- A host read of `a` answers so. -/
def readsAs (s : State) (a : Addr) (w : Word) (r : Resp) : Bool :=
  gives (fun t => decide (t.port = some (.read w r))) (hostRead a s)

/-! ### Well-formedness: each check refuses an ill-formed term -/

theorem smoke_default_params : defaultParams.wellFormed = true := by decide
theorem smoke_nMax_low : (Params.wellFormed { defaultParams with nMax := 1 }) = false := by decide
theorem smoke_nMax_high : (Params.wellFormed { defaultParams with nMax := 65537 }) = false := by decide
theorem smoke_outMax_low : (Params.wellFormed { defaultParams with outMax := 1 }) = false := by decide
theorem smoke_outMax_high : (Params.wellFormed { defaultParams with outMax := 1048577 }) = false := by decide
theorem smoke_spiral : (Params.wellFormed { defaultParams with spiral := Vector.replicate 64 0 }) = false := by decide
theorem smoke_op : legalWord 0x0000000000000005#64 = false := by decide
theorem smoke_src : legalWord 0x0000000000000103#64 = false := by decide
theorem smoke_reserved : legalWord 0x8000000000000004#64 = false := by decide
theorem smoke_legal : legalWord 0x0000000000000104#64 = true := by decide

/-! ### Decoding: words written out from 30_encoding.md R90 to R92, CMD[63:9] = 0, CMD[8] = SRC, CMD[7:0] = OP -/

theorem decode_nop : decode (0#55 ++ 0b0#1 ++ 0b00000000#8) = .ok .nop := by decide
theorem decode_clear : decode (0#55 ++ 0b0#1 ++ 0b00000001#8) = .ok .clear := by decide
theorem decode_select : decode (0#55 ++ 0b0#1 ++ 0b00000010#8) = .ok .select := by decide
theorem decode_serialize : decode (0#55 ++ 0b0#1 ++ 0b00000011#8) = .ok .serialize := by decide
theorem decode_spiral_frames : decode (0#55 ++ 0b0#1 ++ 0b00000100#8) = .ok (.spiral .frames) := by decide
theorem decode_spiral_diffs : decode (0#55 ++ 0b1#1 ++ 0b00000100#8) = .ok (.spiral .diffs) := by decide
theorem decode_reserved_bit : decode 0x0000000000000202#64 = .error .reservedBits := by decide
theorem decode_unassigned : decode 0x00000000000000FF#64 = .error (.unassignedOp 0xFF#8) := by decide
theorem decode_src_off_spiral : decode 0x0000000000000100#64 = .error (.srcWithoutSpiral 0x00#8) := by decide
theorem decode_table_word : decodeTableWord 64 0x104 = some (.spiral .diffs) ∧ decodeTableWord 64 0x103 = none := by decide

/-! ### The frame layout and the default table (X1, 2.4) -/

theorem test_bit_layout : bitIndex 0 0 = 56 ∧ bitIndex 7 0 = 63 ∧ bitIndex 0 7 = 0 ∧ bitIndex 7 7 = 7 ∧ bitIndex 3 2 = 43 := by
  decide
theorem test_top_left : frameMask (fun x y => decide (x = 0) && decide (y = 0)) = 0x0100000000000000#64 := by decide
theorem test_default_table : defaultSpiral[0] = 21 ∧ defaultSpiral[7] = 14 ∧ defaultSpiral[27] = 63 ∧ defaultSpiral[56] = 0 ∧
    defaultSpiral[63] = 7 := by decide

/-! ### Timelines, codes, selection, blocks (2.1 to 2.4, X6) -/

theorem test_timeline : timeline (diffs [0x0, 0x1, 0x1, 0x0]) 0 = [0, 2, 1] ∧ timeline (diffs [0x0, 0x1, 0x1, 0x0]) 5 = [3] ∧
    timeline (diffs [0x5]) 2 = [0] := by decide
theorem test_vw_words : vwWords [7] 2 = [0, 0, 1] ∧ vwWords [16] 4 = [0, 1] ∧ vwWords [254] 7 = [0, 127] := by decide
theorem test_vw_string : vwString [1, 2, 3] 2 = [true, true, true, false, false, true] := by decide
theorem test_vw_decode : vwDecode 4 [0, 0, 1, 7] = [31, 7] := by decide
theorem test_select : select [7, 8] = (4, 8) ∧ select [0] = (2, 2) ∧ select [64, 1, 1, 1, 1] = (7, 35) := by decide
theorem test_select_long : select [1000] = (10, 10) := by decide +kernel
theorem test_block : rawBlock [8, 7] = (0x3C0, 11) ∧ block [8, 7] = (0x40, 11) ∧ block [33, 33, 34] = (0x430A, 21) := by decide
theorem test_rle_words : rleWords defaultParams 0x1#64 6 = [21, 1, 42] ∧ rleWords defaultParams 0x0#64 6 = [0, 1] := by
  decide +kernel
theorem test_m3_select : m3Select defaultParams 0xAB55AA55AA55AA55#64 = (2, 126) ∧
    m3Select defaultParams 0x0080000404408280#64 = (4, 48) := by decide +kernel

/-! ### The commands (2.5 and programs P1, P2, P4, P5) -/

/-- The frames of P1. -/
def framesP1 : List Word := [0, 0x0000080000000000#64]
/-- P2. -/
def framesP2 : List Word := [0] ++ List.replicate 7 0x8000000000000000#64 ++ [0x8000000000000001#64] ++
  List.replicate 7 0x8000000000000021#64
/-- P4. -/
def framesP4 : List Word := List.replicate 65 0 ++ [0x80#64, 0, 0x80#64, 0]
/-- P5. -/
def framesP5 : List Word := [0, 0xFFFFFFFFFFFFFFFF#64, 0xAA55AA55AA55AA55#64, 0x0100000000000000#64]
/-- The default parameters with the Method 3 check. -/
def checked : Params := { defaultParams with m3BoundsCheck := true }

theorem test_nop : endsWith State.reset 0x0 0x0000000000000002#64 0 = true := by decide

theorem test_clear :
    gives (fun t => decide (t.statusWord = 0x102#64) && decide (t.totbits = 0 ∧ t.m3cnt = 0 ∧ t.pixres[43] = PixRes.zero))
      (step (State.withFetchWord
        { State.reset with totbits := 460, m3cnt := 3, pixres := Vector.replicate 64 { b := 4, valid := true, dlen := 8 } }
        64 0x1)) = true := by decide

theorem test_select_tie_break :
    gives (fun t => decide (t.statusWord = 0x202#64) && decide (t.pixres[7].word = 0x0000002300000107#64) &&
        decide (t.pixlen[7][5] = 35 ∧ t.pixlen[7][6] = 36 ∧ t.pixlen[7][7] = 35 ∧ t.pixlen[7][1] = 0))
      (step ((holding framesP4).withFetchWord 64 0x2)) = true := by decide +kernel

theorem test_select_nframes_range :
    endsWith { State.reset with nframes := 8193 } 0x2 0x0000000000000226#64 0x0000000000002001#64 = true := by decide

theorem test_serialize :
    gives (fun t => decide (t.statusWord = 0x302#64) && decide (t.totbits = 460 ∧ t.outcnt = 9) &&
        decide (t.out.map Prod.snd = [0, 0, 0, 0, 0, 0, 0x0000000100000000#64, 0x0000000000000070#64, 0]))
      (step ((holding framesP2).withFetchWord 64 0x3)) = true := by decide +kernel

theorem test_serialize_failures :
    endsWith (holding framesP1) 0x3 0x0000000000000336#64 0x000000020000003F#64 = true ∧
    endsWith (builtWith { defaultParams with outMax := 8 } (holding framesP2)) 0x3 0x0000000000000346#64 9 = true := by
  decide +kernel

theorem test_spiral :
    gives (fun t => decide (t.statusWord = 0x402#64) && decide (t.m3cnt = 4 ∧ t.m3total = 154) &&
        decide (t.m3res.map Prod.snd = [0x0000000700000007#64, 0x0000000700000007#64, 0x0000008000000002#64,
          0x0000000C00000006#64]))
      (step ((holding framesP5).withFetchWord 64 0x4)) = true := by decide +kernel

theorem test_spiral_diffs_and_check :
    gives (fun t => decide (t.m3cnt = 3 ∧ t.m3total = 261)) (step ((holding framesP5).withFetchWord 64 0x104)) = true ∧
    endsWith (builtWith checked (holding framesP5)) 0x4 0x0000000000000456#64 0x0000000200000002#64 = true := by decide +kernel

theorem test_illegal_words :
    endsWith State.reset 0x5 0x0000000000000516#64 0 = true ∧ endsWith State.reset 0xFF 0x000000000000FF16#64 0 = true ∧
    endsWith State.reset 0x100 0x0000000000000016#64 0 = true ∧ endsWith State.reset 0x103 0x0000000000000316#64 0 = true ∧
    endsWith State.reset 0x202 0x0000000000000216#64 0 = true ∧
    endsWith State.reset 0x8000000000000004 0x0000000000000416#64 0 = true := by decide

theorem test_unwritten_frame :
    faults (.uninitFrame 0) (step (State.withFetchWord { State.reset with nframes := 1 } 64 0x2)) = true := by decide

/-! ### The host port (2.6) -/

theorem test_port_reads :
    readsAs State.reset 0xF#32 0 .error = true ∧ readsAs State.reset 0x0#32 0x424156454E430007#64 .okay = true ∧
    readsAs State.reset 0x1#32 0x000000000072F234#64 .okay = true ∧
    readsAs State.reset 0x2#32 0x0001000000002000#64 .okay = true ∧ readsAs State.reset 0x12000#32 0 .error = true ∧
    readsAs State.reset 0x110000#32 0 .error = true ∧ readsAs State.reset 0x400#32 0 .okay = true ∧
    readsAs State.reset 0x815#32 0x36#64 .okay = true ∧ readsAs State.reset 0x838#32 0 .okay = true := by decide

theorem test_port_refused_writes :
    (hostWrite 0x0#32 0x1#64 State.reset).port = some (.write .error) ∧
    (hostWrite 0x8#32 0x1#64 State.reset).port = some (.write .error) ∧
    (hostWrite 0x12000#32 0x0#64 State.reset).port = some (.write .error) := by decide

theorem test_port_reserved_bits :
    readsAs (hostWrite 0x3#32 0xFFFFFFFF00000005#64 State.reset) 0x3#32 0x5#64 .okay = true ∧
    readsAs (hostWrite 0x6#32 0xFF#64 State.reset) 0x6#32 0x1#64 .okay = true ∧
    readsAs (hostWrite 0xC#32 0xFFFFFFFFFFFFFFFF#64 State.reset) 0xC#32 0xFFFFFFFF0000003F#64 .okay = true := by decide

theorem test_timeline_read_out :
    readsAs { holding framesP2 with tlsel := { pix := 5, idx := 1 } } 0xD#32 0x0000000100000007#64 .okay = true ∧
    readsAs { holding framesP2 with tlsel := { pix := 5, idx := 2 } } 0xD#32 0 .okay = true ∧
    readsAs { holding framesP2 with tlsel := { pix := 5, idx := 2 } } 0xE#32 2 .okay = true ∧
    readsAs (holding framesP2) 0x20008#32 0x20#64 .okay = true := by decide +kernel

/-- A CMD word is stored and its command starts, with BUSY = 1 and LASTOP its OP (45_command_control.md R210). -/
theorem test_start :
    (hostWrite 0x4#32 0x104#64 State.reset).statusWord = 0x401#64 ∧ (hostWrite 0x4#32 0x104#64 State.reset).cmd = 0x104#64 := by
  decide

/-- Under reset the host has no transaction, and after its release it has (70_reset_and_hazards.md R260,
93_implementation_defined.md U7). -/
theorem test_host_under_reset :
    refuses .transactionUnderReset (step { State.reset with rst := true, moves := [.read 0x5#32] }) = true ∧
    refuses .transactionUnderReset (step { State.reset with rst := true, moves := [.write 0x6#32 1] }) = true ∧
    refuses .transactionUnderReset (step { State.reset with rst := true, moves := [.wait] }) = true ∧
    gives (fun t => !t.rst) (step { State.reset with rst := true, moves := [.releaseRst] }) = true := by decide

/-- The host-program forms (30_encoding.md R97 and the encoded lines of P1 and P2). -/
theorem test_host_program :
    HostProgram.cmd (.spiral .diffs) = [.write 0x4#32 0x104#64] ∧ HostProgram.clr = [.write 0x5#32 0x6#64] ∧
    HostProgram.rd (.pixres 43) = [.read 0x12B#32] ∧ HostProgram.wait = [.wait] ∧
    HostProgram.wr (.frame 1) 0x8#64 = [.write 0x10001#32 0x8#64] ∧
    HostProgram.fill 1 3 0x8#64 = [.write 0x10001#32 0x8#64, .write 0x10002#32 0x8#64, .write 0x10003#32 0x8#64] := by decide

/-- `wait irq` goes on waiting while irq = 0 and ends when it is 1. -/
theorem test_wait_irq :
    gives (fun t => decide (t.moves = [.waitIrq])) (step { State.reset with moves := [.waitIrq] }) = true ∧
    gives (fun t => decide (t.moves = []))
      (step { State.reset with moves := [.waitIrq], doneIe := true, status := Status.completed State.reset.status }) = true := by
  decide

/-! ### Witnesses: for each statement with hypotheses, a state and operands that meet them together -/

/-- A state that runs the command word `w` and lets `n` host moves pass, as a CMD write leaves it. -/
def running (w : Word) (n : Nat) (s : State) : State := s.start w n

/-- Nine dark frames, the smallest sequence that can be serialized (P7). -/
def nine : State := holding (List.replicate 9 0)

theorem ready_of {s : State} (h1 : s.nframes.toNat ≤ s.params.nMax)
    (h2 : ∀ i, i < s.nframes.toNat → (s.frame.read i).isSome = true) : s.inputReady := ⟨h1, h2⟩

theorem nine_ready : nine.inputReady := ready_of (by decide) (by decide)
theorem nine_in_range : AllInRange nine := by unfold AllInRange; decide +kernel

theorem witness_StepRunsTheDecodedCommand :
    (running 0x2#64 5 State.reset).seq = .running 0x2#64 5 ∧ (running 0x2#64 5 State.reset).moves = [] ∧
    decode 0x2#64 = .ok .select ∧ decodeTableWord 64 0x104 = some (.spiral .diffs) := by decide

theorem witness_IllegalCommandFailsAndWritesNothingElse :
    (running 0x103#64 0 State.reset).seq = .running 0x103#64 0 ∧ IllegalWord 0x103#64 ∧ IllegalWord 0x5#64 ∧
    IllegalWord 0x200#64 ∧ ¬IllegalWord 0x104#64 ∧ ¬IllegalWord 0x4#64 := by
  unfold IllegalWord
  decide

/-- The host is about to write SELECT to CMD. -/
def writesCmd : State := { State.reset with moves := [.write 0x4#32 0x2#64] }
theorem witness_CmdWriteStartsTheCommand :
    writesCmd.seq = .idle ∧ writesCmd.rst = false ∧ writesCmd.moves = [.write 0x4#32 0x2#64] := by decide

theorem witness_WritesWhileBusy : (running 0x2#64 1 State.reset).busy = true := by decide

theorem witness_AddressMapIsOneToOne :
    targetAt 0xE#32 = some .tllen ∧ targetAt 0xF#32 = none ∧ targetAt 0xFF#32 = none ∧ targetAt 0x100#32 = some (.pixres 0) ∧
    targetAt 0x13F#32 = some (.pixres 63) ∧ targetAt 0x140#32 = none ∧ targetAt 0x400#32 = some (.pixlen 0 0) ∧
    targetAt 0x7FF#32 = some (.pixlen 63 15) ∧ targetAt 0x83F#32 = some (.spiral 63) ∧ targetAt 0x840#32 = none ∧
    targetAt 0x10000#32 = some (.frame 0) ∧ targetAt 0x2FFFF#32 = some (.diff 65535) ∧ targetAt 0x40000#32 = none ∧
    targetAt 0x1FFFFF#32 = some (.out 1048575) ∧ targetAt 0x200000#32 = none := by decide

theorem witness_ErrorResponsesDoNothing :
    (∃ t, hostRead 0xF#32 State.reset = .next t ∧ t.port = some (.read 0 .error)) ∧
    (hostWrite 0x0#32 1 State.reset).port = some (.write .error) ∧ ¬MappedAddress 0xF ∧ BeyondCapacity defaultParams 0x12000 ∧ ¬BeyondCapacity defaultParams 0x11FFF ∧
    BeyondCapacity defaultParams 0x21FFF ∧ BeyondCapacity defaultParams 0x32000 ∧ BeyondCapacity defaultParams 0x110000 := by
  refine ⟨⟨_, rfl, rfl⟩, by decide, ?_⟩
  simp [MappedAddress, BeyondCapacity, defaultParams]

theorem witness_WritesAreAcceptedWhereTheMapSays :
    ¬WritableAddress defaultParams 0x8 ∧ ¬WritableAddress defaultParams 0x12000 ∧ WritableAddress defaultParams 0x11FFF ∧
    WritableAddress defaultParams 0xC ∧ State.reset.busy = false := by
  unfold WritableAddress
  decide

theorem witness_ReadsHaveNoSideEffects :
    (∃ t, hostRead 0x5#32 State.reset = .next t) ∧ State.reset.busy = false := ⟨⟨_, rfl⟩, rfl⟩

theorem witness_FrameWriteThenRead :
    State.reset.busy = false ∧ (8191 : Fin 65536).val < State.reset.params.nMax ∧ State.reset.frame.wf := by decide

theorem witness_RegisterWritesIgnoreReservedBits : State.reset.busy = false := rfl

/-- A failed command stands in STATUS. -/
def failed : State := State.reset.fail .bRange 63 2
theorem witness_StatusIsWriteOneToClear :
    failed.status.done = true ∧ BitVec.getLsbD 0x6#64 2 = true ∧ BitVec.getLsbD 0x2#64 2 = false := by decide

theorem witness_ConstantRegisters : State.reset.params.wellFormed = true := by decide

theorem witness_ResultReadsWhileBusyAreDraws :
    (running 0x2#64 1 State.reset).busy = true ∧ Target.present defaultParams (.out 65535) = true ∧ ResultRow (.out 65535) ∧
    Target.present defaultParams .status = true ∧ ¬ResultRow .status ∧
    ∃ u, hostRead Target.status.addr (running 0x2#64 1 State.reset) = .next u :=
  ⟨by decide, by decide, trivial, rfl, not_false, ⟨_, rfl⟩⟩

/-- A completed SERIALIZE of no diffs and a SPIRAL of one mask stand in the windows. -/
def standing : State :=
  { State.reset with outcnt := 1, out := [(0, 0)], m3cnt := 1, m3res := [(0, 0x0000000700000007#64)] }
theorem witness_ResultRegisterLayouts :
    standing.busy = false ∧ (0 : Fin 1048576).val < standing.outcnt.toNat ∧ standing.out.read 0 = some 0 ∧
    (0 : Fin 65536).val < standing.m3cnt.toNat ∧ standing.m3res.read 0 = some 0x0000000700000007#64 ∧
    standing.outcnt.toNat ≤ (65535 : Fin 1048576).val ∧ (65535 : Fin 1048576).val < standing.params.outMax ∧
    standing.m3cnt.toNat ≤ (8191 : Fin 65536).val ∧ (8191 : Fin 65536).val < standing.params.nMax := by decide

/-- A window word below its count, and STATUS of a failed command with its error code (2.5, program P1). -/
theorem test_window_reads :
    readsAs standing 0x100000#32 0 .okay = true ∧ readsAs standing 0x30000#32 0x0000000700000007#64 .okay = true ∧
    readsAs { standing with status := { done := true, err := true, errcode := .bRange, lastop := 3 } } 0x5#32 0x336#64 .okay =
      true := by decide

/-- NFRAMES one beyond N_MAX. -/
def tooMany : State := { State.reset with nframes := 8193 }
theorem tooMany_unfit : ¬tooMany.framesFit := by
  unfold State.framesFit
  decide

/-- One frame, which has not been written. -/
def unwritten : State := { State.reset with nframes := 1 }
/-- Two frames, of which the second has not been written. -/
def halfWritten : State := { State.reset with nframes := 2, frame := [(0, 0x5#64)] }

/-- With one frame TLDATA and TLLEN read no frame (41_diff_timeline.md R125), and with two they do (10_state.md R50). -/
theorem test_short_read_outs :
    readsAs unwritten 0xE#32 1 .okay = true ∧ readsAs unwritten 0xD#32 0x0000000100000000#64 .okay = true ∧
    faults (.uninitFrame 1) (hostRead 0xD#32 halfWritten) = true ∧
    faults (.uninitFrame 1) (hostRead 0x20000#32 halfWritten) = true := by decide

theorem witness_TimelineReadouts :
    unwritten.params.wellFormed = true ∧ unwritten.nframes.toNat < 2 ∧ unwritten.tlsel.idx = 0 ∧
    (State.tlsel { unwritten with tlsel := { pix := 0, idx := 1 } }).idx ≠ 0 ∧
    tooMany.params.wellFormed = true ∧ ¬tooMany.framesFit ∧ nine.params.wellFormed = true ∧ nine.inputReady ∧
    (nine.tl nine.tlsel.pixel)[nine.tlsel.idx.toNat]? = some 8 ∧
    (nine.tl nine.tlsel.pixel).length ≤ (State.tlsel { nine with tlsel := { pix := 0, idx := 1 } }).idx.toNat :=
  ⟨by decide, by decide, by decide, by decide, by decide, tooMany_unfit, by decide, nine_ready, by decide, by decide⟩

theorem witness_DiffReadout :
    (8190 : Fin 65536).val + 1 < nine.params.nMax ∧ ¬(nine.framesFit ∧ 8 + 1 < nine.nframes.toNat) ∧
    nine.framesFit ∧ 7 + 1 < nine.nframes.toNat ∧ nine.frame.read 7 = some 0 ∧ nine.frame.read 8 = some 0 := by
  unfold State.framesFit
  decide

theorem witness_UnwrittenFramesFault :
    ReadsFrames .select ∧ ReadsFrames .serialize ∧ ReadsFrames (.spiral .diffs) ∧ unwritten.framesFit ∧
    0 < unwritten.nframes.toNat ∧ unwritten.frame.read 0 = none ∧ nine.framesFit ∧
    halfWritten.framesFit ∧ (0 : Fin 65536).val + 1 < halfWritten.nframes.toNat ∧ halfWritten.frame.read (0 + 1) = none ∧
    (8190 : Fin 65536).val + 1 < halfWritten.params.nMax ∧ (8191 : Fin 65536).val < halfWritten.params.nMax ∧
    ∃ x, hostRead 0x11FFF#32 halfWritten = .fault x := by
  unfold State.framesFit
  exact ⟨trivial, trivial, trivial, by decide, by decide, rfl, by decide, by decide, by decide, rfl, by decide, by decide,
    ⟨_, rfl⟩⟩

theorem witness_SelectCompletes :
    nine.inputReady ∧ State.reset.inputReady ∧ State.reset.nframes.toNat ≤ 1 ∧ (holding [0x5#64]).inputReady ∧
    (holding [0x5#64]).nframes.toNat ≤ 1 :=
  ⟨nine_ready, ready_of (by decide) (by decide), by decide, ready_of (by decide) (by decide), by decide⟩

/-- The block in which NFRAMES_RANGE changes no result (notes/assumptions/20.md). -/
def keeping : Params := { defaultParams with nframesRangeZeroes := false }
/-- The block in which a failed SERIALIZE or SPIRAL has a count of 0 after NFRAMES_RANGE too (notes/assumptions/20.md). -/
def zeroing : Params := { defaultParams with nframesRangeZeroes := true }
/-- The results `standing` with NFRAMES one beyond N_MAX. -/
def staleOf (p : Params) : State := builtWith p (standing.withNframes 8193)

/-- By 2.5 the failure changes no result register; by 70_reset_and_hazards.md R268 the count of the failed command is 0. -/
theorem test_nframes_range_results :
    gives (fun t => decide (t.outcnt = 1 ∧ t.m3cnt = 1)) (exec .serialize (staleOf keeping)) = true ∧
    gives (fun t => decide (t.outcnt = 0 ∧ t.m3cnt = 1)) (exec .serialize (staleOf zeroing)) = true ∧
    gives (fun t => decide (t.outcnt = 1 ∧ t.m3cnt = 0)) (exec (.spiral .diffs) (staleOf zeroing)) = true ∧
    gives (fun t => decide (t.outcnt = 1 ∧ t.m3cnt = 1)) (exec .select (staleOf zeroing)) = true := by decide

theorem witness_NframesRangeFails :
    ReadsFrames (.spiral .frames) ∧ (staleOf keeping).params.nMax < (staleOf keeping).nframes.toNat ∧
    (staleOf keeping).params.nframesRangeZeroes = false ∧ ReadsFrames .serialize ∧
    (staleOf zeroing).params.nMax < (staleOf zeroing).nframes.toNat ∧ (staleOf zeroing).params.nframesRangeZeroes = true ∧
    (65535 : Fin 1048576).val < (staleOf zeroing).params.outMax ∧
    (8191 : Fin 65536).val < (staleOf zeroing).params.nMax :=
  ⟨trivial, by decide, rfl, trivial, by decide, rfl, by decide, by decide⟩

theorem witness_SerializeCompletes :
    nine.params.wellFormed = true ∧ nine.inputReady ∧ 2 ≤ nine.nframes.toNat ∧ AllInRange nine ∧
    ((assemble nine.diffList).2 + 63) / 64 + 1 ≤ nine.params.outMax :=
  ⟨by decide, nine_ready, by decide, nine_in_range, by decide +kernel⟩

theorem witness_SerializeOfNoDiffsCompletes :
    State.reset.inputReady ∧ State.reset.nframes.toNat < 2 ∧ (holding [0x5#64]).inputReady ∧
    (holding [0x5#64]).nframes.toNat < 2 :=
  ⟨ready_of (by decide) (by decide), by decide, ready_of (by decide) (by decide), by decide⟩

/-- Two equal frames select b = 2 everywhere, so pixel 63 is the highest violation (2.3). -/
theorem witness_SerializeReportsHighestViolation :
    (holding [0, 0]).inputReady ∧ 2 ≤ (holding [0, 0]).nframes.toNat ∧ (select ((holding [0, 0]).tl 63)).1 < 4 ∧
    (∀ q : Pixel, 63 < q → 4 ≤ (select ((holding [0, 0]).tl q)).1 ∧ (select ((holding [0, 0]).tl q)).1 ≤ 11) ∧
    11 < (select [3000]).1 :=
  ⟨ready_of (by decide) (by decide), by decide, by decide, by decide +kernel, by decide +kernel⟩

/-- Nine dark frames on a block whose output memory holds two words. -/
def nineSmall : State := builtWith { defaultParams with outMax := 2 } nine
theorem witness_SerializeOverflowFails :
    nineSmall.inputReady ∧ 2 ≤ nineSmall.nframes.toNat ∧ AllInRange nineSmall ∧
    nineSmall.params.outMax < ((assemble nineSmall.diffList).2 + 63) / 64 + 1 := by
  refine ⟨ready_of (by decide) (by decide), by decide, ?_, by decide +kernel⟩
  unfold AllInRange
  decide +kernel

theorem p5_ready (p : Params) (h : 4 ≤ p.nMax) : (builtWith p (holding framesP5)).inputReady :=
  ready_of h fun i hi => (show ∀ i, i < 4 → ((holding framesP5).frame.read i).isSome = true by decide) i hi

theorem witness_SpiralCompletes :
    (holding framesP5).params.wellFormed = true ∧ (holding framesP5).inputReady ∧
    (holding framesP5).params.m3BoundsCheck = false ∧ (builtWith checked (holding [0])).params.wellFormed = true ∧
    (builtWith checked (holding [0])).inputReady ∧
    ∀ m ∈ selectMasks .frames (builtWith checked (holding [0])).frameList, 4 ≤ (m3Select checked m).1 ∧
      (m3Select checked m).1 ≤ 11 :=
  ⟨by decide, p5_ready defaultParams (by decide), rfl, by decide, ready_of (by decide) (by decide), fun m hm => by
    have e : selectMasks .frames (builtWith checked (holding [0])).frameList = [0] := by decide
    rw [e, List.mem_singleton] at hm
    subst hm
    decide +kernel⟩

theorem witness_SpiralBoundsCheck :
    (builtWith checked (holding framesP5)).inputReady ∧ (builtWith checked (holding framesP5)).params.m3BoundsCheck = true ∧
    (selectMasks .frames (builtWith checked (holding framesP5)).frameList)[2]? = some 0xAA55AA55AA55AA55#64 ∧
    (m3Select checked 0xAA55AA55AA55AA55#64).1 < 4 ∧
    (∀ j, j < 2 → ∀ m', (selectMasks .frames (builtWith checked (holding framesP5)).frameList)[j]? = some m' →
      4 ≤ (m3Select checked m').1) ∧
    (holding framesP5).params.m3BoundsCheck = false := by
  refine ⟨p5_ready checked (by decide), rfl, by decide, by decide +kernel, ?_, rfl⟩
  have h : ∀ j, j < 2 → ((selectMasks .frames (builtWith checked (holding framesP5)).frameList)[j]?.all
      fun m' => decide (4 ≤ (m3Select checked m').1)) = true := by decide +kernel
  intro j hj m' hm
  simpa [hm] using h j hj

theorem witness_CommandsWriteOnlyTheirOwnResults : ∃ t, exec (.spiral .frames) (holding framesP5) = .next t :=
  ⟨_, exec_spiral_ready .frames (p5_ready defaultParams (by decide))⟩

/-- Nine frames, with other words beyond them, another CMD word and other results standing. -/
def nineOther : State := { nine with frame := nine.frame.write 9 0x77#64, cmd := 0x4#64, out := [(0, 5)], outcnt := 1 }
theorem witness_ResultsAreAFunctionOfTheInput :
    nineOther.params = nine.params ∧ nineOther.nframes = nine.nframes ∧ nineOther.status = nine.status ∧
    (∀ j, j < nine.nframes.toNat → nineOther.frame.read j = nine.frame.read j) ∧ nine.framesFit ∧
    ∃ t, exec .serialize nine = .next t :=
  ⟨rfl, rfl, rfl, by decide, nine_ready.1, ⟨_, exec_serialize_ready nine_ready⟩⟩

theorem witness_DiffSequenceIsPairwiseXor :
    ([0x1#64, 0x3#64] : List Word)[0]? = some 0x1#64 ∧ ([0x1#64, 0x3#64] : List Word)[0 + 1]? = some 0x3#64 := by decide

theorem witness_PixelLanesAreIndependent :
    ([0x1#64, 0x4#64] : List Word).map (fun d => d.getLsbD (2 : Pixel).val) =
      ([0x2#64, 0x6#64] : List Word).map (fun d => d.getLsbD (2 : Pixel).val) := by decide

theorem witness_ValueCodeClosedForm : 2 ≤ 2 ∧ 15 ≤ 15 ∧ escapes 2 0 = 0 ∧ escapes 2 3 = 0 ∧ escapes 2 4 = 1 ∧ escapes 7 254 = 1 ∧
    escapes 7 255 = 2 := by decide

theorem witness_CodeRoundTripsExactlyWithoutZeros :
    2 ≤ 4 ∧ 4 ≤ 15 ∧ (∀ v ∈ [16], 1 ≤ v) ∧ vwDecode 4 (vwWords [16] 4) = [16] ∧ vwDecode 2 (vwWords [0, 1] 2) = [4] := by decide

theorem witness_StringReadAsNumber : 2 ≤ 2 ∧ 2 ≤ 15 ∧ (vwWords [7] 2)[2]? = some 1 := by decide

theorem witness_SelectionIsLargestOfMinimalLength :
    vwLen [64, 1, 1, 1, 1] 5 = (select [64, 1, 1, 1, 1]).2 ∧ vwLen [64, 1, 1, 1, 1] 7 = (select [64, 1, 1, 1, 1]).2 ∧
    rleLen defaultParams 0x0080000404408280#64 3 = (m3Select defaultParams 0x0080000404408280#64).2 := by decide +kernel

theorem witness_BlockHoldsFieldWordsAndSentinel :
    (select [7, 8]).1 = 4 ∧ (vwWords [7, 8] (select [7, 8]).1)[0]? = some 7 ∧
    0 + 1 < (vwWords [7, 8] (select [7, 8]).1).length ∧ (select [2047]).1 = 11 := by decide +kernel

theorem witness_AssemblyHoldsEveryBlock :
    ∀ p : Pixel, 4 ≤ (select (timeline (List.replicate 8 0) p)).1 ∧ (select (timeline (List.replicate 8 0) p)).1 ≤ 11 := by
  decide +kernel

theorem witness_OutputWordsSpellTheNumber : 0 < 2 ^ 0 ∧ 2 ^ 64 < 2 ^ 65 := by decide

theorem witness_SerializedStreamHasFieldsAndSentinels :
    nine.params.wellFormed = true ∧ 2 ≤ nine.nframes.toNat ∧
    ∃ t, exec .serialize nine = .next t ∧ t.status.err = false :=
  ⟨by decide, by decide, ⟨_, exec_serialize_ready nine_ready, by decide +kernel⟩⟩

theorem witness_AssembledLengthIsBounded : (List.replicate 8191 (0 : Word)).length ≤ 8191 := by
  rw [List.length_replicate]

theorem witness_SpiralPermutesTheMask : defaultParams.wellFormed = true := by decide

theorem witness_RunLengthClosedForm : defaultParams.wellFormed = true ∧ 2 ≤ 2 ∧ 7 ≤ 7 := by decide

/-- A SERIALIZE runs and the host asserts reset. -/
def interrupted : State := { running 0x3#64 4 nine with moves := [.assertRst] }
theorem witness_ResetLeavesTheResetState :
    (∃ w n, interrupted.seq = .running w (n + 1)) ∧ interrupted.moves = [.assertRst] ∧
    (State.seq { nine with moves := [.assertRst] }) = .idle :=
  ⟨⟨_, _, rfl⟩, rfl, rfl⟩

theorem witness_ReadoutsAfterReset : (8190 : Fin 65536).val + 1 < 8192 := by decide

theorem writesCmd_inv : writesCmd.Inv := by
  constructor <;> simp [writesCmd, State.reset, PixRes.zero]
  decide

theorem witness_EveryStepKeepsTheInvariant : writesCmd.Inv ∧ ∃ t, step writesCmd = .next t := ⟨writesCmd_inv, ⟨_, rfl⟩⟩

theorem witness_ParametersNeverChange : ∃ t, step interrupted = .next t := ⟨_, rfl⟩

/-- A SERIALIZE runs and the host polls it. -/
def polled : State := { running 0x3#64 1 nine with moves := [.wait] }
theorem witness_ResultsArePublishedAtCompletion :
    polled.busy = true ∧ ∃ t, step polled = .next t ∧ t.busy = true := by
  refine ⟨by decide, ?_⟩
  have h : gives (fun t => t.busy) (step polled) = true := by decide
  revert h
  generalize step polled = r
  cases r <;> simp [gives]

theorem witness_OnlyCompletionOrResetEndsACommand :
    interrupted.busy = true ∧ (∃ t, step interrupted = .next t ∧ t.busy = false) ∧
    (running 0x0#64 0 State.reset).busy = true ∧
    ∃ t, step (running 0x0#64 0 State.reset) = .next t ∧ t.busy = false :=
  ⟨by decide, ⟨_, rfl, rfl⟩, by decide, ⟨_, rfl, rfl⟩⟩

theorem witness_StartedCommandsEnd :
    (running 0x0#64 0 State.reset).seq = .running 0x0#64 0 ∧ ∃ t, StepsTo (0 + 1) (running 0x0#64 0 State.reset) t :=
  ⟨rfl, ⟨_, ⟨_, rfl, rfl⟩⟩⟩

theorem witness_IrqFollowsDoneAndEnable :
    (∃ t, runCommand 0x0#64 State.reset = .next t) ∧ (∃ t, runCommand 0x5#64 State.reset = .next t) ∧ BitVec.getLsbD 0x6#64 1 = true ∧ State.reset.busy = false :=
  ⟨⟨_, rfl⟩, ⟨_, rfl⟩, by decide, rfl⟩

theorem witness_WaitPollsUntilIdle :
    polled.rst = false ∧ polled.moves = [.wait] ∧ polled.seq = .running 0x3#64 (0 + 1) ∧
    (State.seq { nine with moves := [.wait] }) = .idle := ⟨rfl, rfl, rfl, rfl⟩

/-- Reset stands asserted and the host is about to read STATUS, or to release it. -/
theorem witness_HostUnderReset :
    State.rst { State.reset with rst := true, moves := [.read 0x5#32] } = true ∧
    State.seq { State.reset with rst := true, moves := [.read 0x5#32] } = .idle ∧
    State.moves { State.reset with rst := true, moves := [.releaseRst] } = [.releaseRst] := by decide

end Sys2Proof.Tests
end

section
/-! The invariant of the block: what each update of the state keeps of it, and that every step keeps it. -/

namespace Sys2Proof.Machine

open Sys2Proof Sys2Proof.Config

/-! What PIXLEN and PIXRES hold of a timeline -/

theorem pixLenOf_low (t : List Nat) {b : Nat} (hb : b < 2) : (pixLenOf t)[b]'(by omega) = 0 := by
  simp [pixLenOf, m2Lo, show b ≤ 1 by omega]

theorem pixLenOf_getElem (t : List Nat) {b : Nat} (hb : 2 ≤ b) (hb' : b < 16) :
    (pixLenOf t)[b] = BitVec.ofNat 32 (vwLen t b) := by
  simp [pixLenOf, m2Lo, show ¬b ≤ 1 by omega]

/-- The selected word size fits its field. -/
theorem pixResOf_b_toNat (t : List Nat) : (pixResOf t).b.toNat = (select t).1 := by
  obtain ⟨-, hhi, -⟩ := selectBy_spec (vwLen t) (lo := m2Lo) (hi := m2Hi) (by decide)
  exact Nat.mod_eq_of_lt (Nat.lt_of_le_of_lt hhi (by decide))

theorem pixResOf_two_le_b (t : List Nat) : 2 ≤ (pixResOf t).b.toNat := by
  rw [pixResOf_b_toNat]
  exact (selectBy_spec (vwLen t) (lo := m2Lo) (hi := m2Hi) (by decide)).1

/-- The selected length is the length PIXLEN has at the selected word size. -/
theorem pixResOf_dlen (t : List Nat) : (pixResOf t).dlen = (pixLenOf t)[(pixResOf t).b.toNat]'(pixResOf t).b.isLt := by
  obtain ⟨-, -, hlen, -⟩ := selectBy_spec (vwLen t) (lo := m2Lo) (hi := m2Hi) (by decide)
  rw [pixLenOf_getElem t (pixResOf_two_le_b t), pixResOf_b_toNat]
  exact congrArg (BitVec.ofNat 32) hlen

/-! The updates of the host side -/

section

variable {s : State}

theorem State.Inv.answer (h : s.Inv) (r : Answer) : (s.answer r).Inv := { h with }

theorem State.Inv.draw (h : s.Inv) : s.draw.Inv := { h with }

theorem State.Inv.withMoves (h : s.Inv) (ms : List Move) : (s.withMoves ms).Inv := { h with }

theorem State.Inv.withNframes (h : s.Inv) (v : BitVec 32) : (s.withNframes v).Inv := { h with }

theorem State.Inv.withDoneIe (h : s.Inv) (v : Bool) : (s.withDoneIe v).Inv := { h with }

theorem State.Inv.withTlsel (h : s.Inv) (v : TlSel) : (s.withTlsel v).Inv := { h with }

theorem State.Inv.withFrame (h : s.Inv) {i : Nat} (w : Word) (hi : i < s.params.nMax) :
    (s.withFrame (s.frame.write i w)).Inv :=
  { h with
    frame_wf := Memory.write_wf i w h.frame_wf
    frame_below := Memory.write_below w h.frame_below hi }

/-- A W1C write clears ERR and ERRCODE together, and no flag of a running command is set. -/
theorem State.Inv.withStatus_w1c (h : s.Inv) (d : Word) : (s.withStatus (s.status.w1c d)).Inv :=
  { h with
    errcode_none := by
      simp only [State.withStatus_status, Status.w1c_err, Status.w1c_errcode]
      cases d.getLsbD 2
      · simpa using h.errcode_none
      · simp
    running := fun w n hs => by
      obtain ⟨hcmd, hdone, herr, hrst⟩ := h.running w n hs
      simp [hcmd, hdone, herr, hrst] }

theorem State.Inv.start (h : s.Inv) (hr : s.rst = false) (w : Word) (left : Nat) : (s.start w left).Inv :=
  { h with
    errcode_none := by simp
    lastop_cmd := rfl
    running := fun w' n hs => by
      cases hs
      simp [hr] }

theorem State.Inv.withRst_false (h : s.Inv) : (s.withRst false).Inv :=
  { h with
    running := fun w n hs => by
      obtain ⟨hcmd, hdone, herr, -⟩ := h.running w n hs
      exact ⟨hcmd, hdone, herr, rfl⟩ }

/-- A host move that a running command lets pass. -/
theorem State.Inv.withSeq_running (h : s.Inv) {w : Word} {n : Nat} (hs : s.seq = .running w n) (k : Nat) :
    (s.withSeq (.running w k)).Inv :=
  { h with
    running := fun w' k' hs' => by
      cases hs'
      exact h.running w n hs }

/-- Reset leaves nothing for the invariant to ask but of the parameters. -/
theorem State.Inv.assertReset (h : s.Inv) : s.assertReset.Inv where
  params_ok := h.params_ok
  frame_wf := .nil
  frame_below := by simp [State.reset]
  out_wf := .nil
  out_below := by simp [State.reset]
  m3_wf := .nil
  m3_below := by simp [State.reset]
  out_valid := by simp [State.reset]
  out_guard := by simp [State.reset]
  m3_valid := by simp [State.reset]
  pixlen_low := by simp [State.reset]
  pixres_valid := by simp [State.reset, PixRes.zero]
  errcode_none := by simp [State.reset]
  lastop_cmd := rfl
  running := by simp [State.reset]

/-! The updates of the commands -/

theorem State.Inv.complete (h : s.Inv) : s.complete.Inv := { h with running := by simp }

theorem State.Inv.fail (h : s.Inv) {code : ErrCode} (hc : code ≠ .none) (index : BitVec 32) (b : BitVec 4) :
    (s.fail code index b).Inv :=
  { h with
    errcode_none := by simp [hc]
    running := by simp }

theorem State.Inv.clearResults (h : s.Inv) : s.clearResults.Inv :=
  { h with
    out_valid := by simp
    out_guard := by simp
    m3_valid := by simp
    pixlen_low := by simp
    pixres_valid := by simp [PixRes.zero] }

theorem State.Inv.writePixels (h : s.Inv) (ds : List Word) : (s.writePixels ds).Inv :=
  { h with
    pixlen_low := fun p => by simp [pixLenOf_low]
    pixres_valid := fun p _ => by
      simpa using ⟨pixResOf_two_le_b (timeline ds p), pixResOf_dlen (timeline ds p)⟩ }

/-- OUTCNT 0 asks nothing of OUT, so OUT may be forgotten. -/
theorem State.Inv.forgetOut (h : s.Inv) (v : BitVec 32) : State.Inv { s with totbits := v, outcnt := 0, out := [] } :=
  { h with
    out_wf := .nil
    out_below := by simp
    out_valid := by simp
    out_guard := by simp }

/-- M3CNT 0 asks nothing of M3RES, so M3RES may be forgotten. -/
theorem State.Inv.forgetM3 (h : s.Inv) (v : BitVec 32) : State.Inv { s with m3total := v, m3cnt := 0, m3res := [] } :=
  { h with
    m3_wf := .nil
    m3_below := by simp
    m3_valid := by simp }

theorem State.Inv.serializeBRange (h : s.Inv) : s.serializeBRange.Inv := h.forgetOut 0

theorem State.Inv.serializeOverflow (h : s.Inv) (t : Nat) : (s.serializeOverflow t).Inv := h.forgetOut _

theorem State.Inv.spiralBRange (h : s.Inv) : s.spiralBRange.Inv := h.forgetM3 0

theorem State.Inv.serializeNframesRange (h : s.Inv) : s.serializeNframesRange.Inv := by
  cases hp : s.params.nframesRangeZeroes
  · rwa [State.serializeNframesRange_eq hp]
  · have e : s.serializeNframesRange = { s with totbits := s.totbits, outcnt := 0, out := [] } := by
      simp [State.serializeNframesRange, hp]
    rw [e]
    exact h.forgetOut _

theorem State.Inv.spiralNframesRange (h : s.Inv) : s.spiralNframesRange.Inv := by
  cases hp : s.params.nframesRangeZeroes
  · rwa [State.spiralNframesRange_eq hp]
  · have e : s.spiralNframesRange = { s with m3total := s.m3total, m3cnt := 0, m3res := [] } := by
      simp [State.spiralNframesRange, hp]
    rw [e]
    exact h.forgetM3 _

theorem State.Inv.serializeEmpty (h : s.Inv) : s.serializeEmpty.Inv := by
  obtain ⟨-, ⟨ho, -⟩, -⟩ := (Params.wellFormed_iff _).1 h.params_ok
  exact
  { h with
    out_wf := Memory.write_wf 0 0 h.out_wf
    out_below := Memory.write_below 0 h.out_below (Nat.lt_of_lt_of_le Nat.two_pos ho)
    out_valid := by simp [Memory.read_write_same]
    out_guard := by simp [Memory.read_write_same] }

/-- The output that fits OUT: its words are held, the last of them the trailing zero word. -/
theorem State.Inv.serializeOutput (h : s.Inv) (n t : Nat) (ht : chunks t + 1 ≤ s.params.outMax) :
    (s.serializeOutput n t).Inv := by
  obtain ⟨-, ⟨-, ho⟩, -⟩ := (Params.wellFormed_iff _).1 h.params_ok
  have hcnt : (s.serializeOutput n t).outcnt.toNat = chunks t + 1 := by
    simp only [State.serializeOutput_outcnt, BitVec.toNat_ofNat]
    omega
  have hread : ∀ i, i ≤ chunks t → (s.serializeOutput n t).out.read i = (outWords n t)[i]? := fun i hi => by
    simp [Memory.read_writeFrom, Nat.lt_succ_of_le hi]
  exact
  { h with
    out_wf := Memory.writeFrom_wf 0 _ h.out_wf
    out_below := Memory.writeFrom_below h.out_below (by simpa using ht)
    out_valid := fun i hi => by
      have hi : i ≤ chunks t := by omega
      rw [hread i hi, outWords_getElem? n t i hi, Option.isSome_some]
    out_guard := fun _ => by
      rw [hcnt, Nat.add_sub_cancel, hread _ (Nat.le_refl _), outWords_getElem? n t _ (Nat.le_refl _)]
      simp }

/-- The entries that fit M3RES are held. -/
theorem State.Inv.spiralOutput (h : s.Inv) {ms : List Word} (hm : ms.length ≤ s.params.nMax) : (s.spiralOutput ms).Inv := by
  obtain ⟨⟨-, hn⟩, -⟩ := (Params.wellFormed_iff _).1 h.params_ok
  have hcnt : (s.spiralOutput ms).m3cnt.toNat = ms.length := by
    simp only [State.spiralOutput_m3cnt, BitVec.toNat_ofNat]
    omega
  have hlen : (m3Words s.params ms).length = ms.length := by simp [m3Words]
  exact
  { h with
    m3_wf := Memory.writeFrom_wf 0 _ h.m3_wf
    m3_below := Memory.writeFrom_below h.m3_below (by simpa [hlen] using hm)
    m3_valid := fun i hi => by
      have hi : i < (m3Words s.params ms).length := by omega
      simp [Memory.read_writeFrom, hi] }

theorem State.Inv.serializeDiffs (h : s.Inv) (ds : List Word) : (s.serializeDiffs ds).Inv := by
  rcases s.serializeDiffs_cases ds with ⟨-, e⟩ | ⟨-, p, b, -, e⟩ | ⟨-, -, -, e⟩ | ⟨-, -, hfit, e⟩ <;> rw [e]
  · exact h.serializeEmpty.complete
  · exact h.serializeBRange.fail (by decide) _ _
  · exact (h.serializeOverflow _).fail (by decide) _ _
  · exact (h.serializeOutput _ _ hfit).complete

theorem State.Inv.spiralMasks (h : s.Inv) {ms : List Word} (hm : ms.length ≤ s.params.nMax) : (s.spiralMasks ms).Inv := by
  rcases s.spiralMasks_cases ms with ⟨i, b, -, e⟩ | ⟨-, e⟩ <;> rw [e]
  · exact h.spiralBRange.fail (by decide) _ _
  · exact (h.spiralOutput hm).complete

end

/-- Either source gives at most one mask for each frame. -/
theorem selectMasks_length_le (src : Src) (fs : List Word) : (selectMasks src fs).length ≤ fs.length := by
  cases src with
  | frames => exact Nat.le_refl _
  | diffs => simp [selectMasks, diffs_length]

/-- Every command keeps the invariant. -/
theorem State.Inv.exec {s t : State} (h : s.Inv) {i : Instr} (he : exec i s = .next t) : t.Inv := by
  cases i with
  | nop =>
    cases he
    exact h.complete
  | clear =>
    cases he
    exact h.clearResults.complete
  | select =>
    rcases State.withFrames_next ((exec_select s).symm.trans he) with ⟨-, rfl⟩ | ⟨-, hk⟩
    · exact h.fail (by decide) _ _
    · cases hk
      exact (h.writePixels _).complete
  | serialize =>
    rcases State.withFrames_next ((exec_serialize s).symm.trans he) with ⟨-, rfl⟩ | ⟨-, hk⟩
    · exact h.serializeNframesRange.fail (by decide) _ _
    · cases hk
      exact (h.writePixels _).serializeDiffs _
  | spiral src =>
    rcases State.withFrames_next ((exec_spiral src s).symm.trans he) with ⟨-, rfl⟩ | ⟨⟨hfit, -⟩, hk⟩
    · exact h.spiralNframesRange.fail (by decide) _ _
    · cases hk
      exact h.spiralMasks ((selectMasks_length_le src _).trans (s.frameList_length.trans_le hfit))

theorem State.Inv.runCommand {s t : State} (h : s.Inv) {w : Word} (he : runCommand w s = .next t) : t.Inv := by
  rcases runCommand_cases w s with ⟨i, -, e⟩ | ⟨x, -, e⟩ <;> rw [e] at he
  · exact h.exec he
  · cases he
    exact h.fail (by decide) _ _

theorem State.Inv.hostRead {s t : State} (h : s.Inv) {a : Addr} (he : hostRead a s = .next t) : t.Inv := by
  obtain ⟨w, r, rfl | ⟨-, rfl⟩⟩ := hostRead_next he
  · exact h.answer _
  · exact (h.answer _).draw

/-- An accepted write of a row the block has. -/
theorem State.Inv.writeTarget {s u : State} (h : s.Inv) (hr : s.rst = false) {d : Word} {x : Target}
    (hx : x.present s.params = true) (hw : s.writeTarget d x = some u) : u.Inv := by
  rcases State.writeTarget_some hw with ⟨-, -, rfl⟩ | ⟨-, -, rfl⟩ | ⟨-, rfl⟩ | ⟨-, rfl⟩ | ⟨-, rfl⟩ | ⟨i, rfl, -, rfl⟩
  · exact h.withNframes _
  · exact h.start hr _ _
  · exact h.withStatus_w1c d
  · exact h.withDoneIe _
  · exact h.withTlsel _
  · exact h.withFrame d (by simpa [Target.present] using hx)

theorem State.Inv.hostWrite {s : State} (h : s.Inv) (hr : s.rst = false) (a : Addr) (d : Word) : (hostWrite a d s).Inv := by
  rcases hostWrite_cases a d s with ⟨-, e⟩ | ⟨x, u, hx, hw, e⟩ <;> rw [e]
  · exact h.answer _
  · exact ((h.writeTarget hr (State.targetAt_some hx).2 hw).answer _).draw

/-- Every move of the host keeps the invariant. -/
theorem State.Inv.hostMove {s t : State} (h : s.Inv) {m : Move} (he : hostMove m s = .next t) : t.Inv := by
  rcases hostMove_cases he with ⟨a, -, -, hread⟩ | ⟨a, d, -, hr, rfl⟩ | ⟨-, -, rfl⟩ | ⟨-, rfl⟩ | ⟨-, rfl⟩ | ⟨-, rfl⟩
  · exact h.hostRead hread
  · exact h.hostWrite hr a d
  · split
    · exact (h.withMoves _).answer _
    · exact h.answer _
  · split
    · exact h
    · exact h.withMoves _
  · exact h.assertReset
  · exact h.withRst_false

/-- Settles O53: a step is one command run whole or one move of the host, and both keep the invariant. -/
theorem everyStepKeepsTheInvariant : Obligations.EveryStepKeepsTheInvariant := by
  intro s t h hstep
  rcases step_cases s with ⟨w, n, -, -, e⟩ | ⟨-, -, e⟩ | ⟨m, ms, w, n, hseq, -, e⟩ | ⟨m, ms, -, -, e⟩ <;> rw [e] at hstep
  · exact h.runCommand hstep
  · cases hstep
    exact h
  · exact ((h.withSeq_running hseq n).withMoves ms).hostMove hstep
  · exact (h.withMoves ms).hostMove hstep

end Sys2Proof.Machine
end

section
/-! The host port at the address of a row: the map finds the row again, and reads and writes there are those of the row. -/

namespace Sys2Proof.Machine

open Sys2Proof Sys2Proof.Config Sys2Proof.Claims

theorem windowAt_base_add {size : Nat} (base : Nat) (k : Fin size) (mk : Fin size → Target) :
    windowAt base size (base + k.val) mk = some (mk k) := by
  have h : base ≤ base + k.val ∧ base + k.val < base + size := ⟨Nat.le_add_right _ _, Nat.add_lt_add_left k.isLt _⟩
  rw [windowAt, dif_pos h]
  exact congrArg (fun j => some (mk j)) (Fin.ext (Nat.add_sub_cancel_left ..))

theorem windowAt_outside {base size n : Nat} (mk : Fin size → Target) (h : n < base ∨ base + size ≤ n) :
    windowAt base size n mk = none := by
  rw [windowAt, dif_neg (by omega)]

/-- The offset `16p + b` names pixel p and word size b (20_memory.md R64). -/
theorem pixlenTarget_offset (p : Pixel) (b : Fin 16) : pixlenTarget ⟨16 * p.val + b.val, by omega⟩ = .pixlen p b := by
  have hp : (16 * p.val + b.val) / 16 = p.val := by omega
  have hb : (16 * p.val + b.val) % 16 = b.val := by omega
  simp only [pixlenTarget, hp, hb]

/-- Every address of the map fits the 32-bit port. -/
theorem Target.address_lt (t : Target) : t.address < 2 ^ 32 := by
  cases t <;> simp only [Target.address] <;> omega

/-- A window is beyond the registers, and no two windows overlap. -/
theorem elementAt_address (t : Target) (h : 0x100 ≤ t.address) : elementAt t.address = some t := by
  cases t
  case pixlen p b =>
    have e := windowAt_base_add 0x400 ⟨16 * p.val + b.val, by omega⟩ pixlenTarget
    rw [pixlenTarget_offset] at e
    simp (disch := omega) only [elementAt, Target.address, windowAt_outside, e]
    rfl
  case pixres | spiral | frame | diff | m3res | out =>
    simp (disch := omega) only [elementAt, Target.address, windowAt_outside, windowAt_base_add]
    rfl
  all_goals
    simp only [Target.address] at h
    omega

theorem registerAt_address (t : Target) (h : t.address < 0x100) : registerAt t.address = some t := by
  cases t
  case pixres | pixlen | spiral | frame | diff | m3res | out =>
    simp only [Target.address] at h
    omega
  all_goals rfl

/-- The address of a row names the row. -/
theorem targetAt_addr (t : Target) : Machine.targetAt t.addr = some t := by
  have e : t.addr.toNat = t.address := Nat.mod_eq_of_lt t.address_lt
  rw [Machine.targetAt, e]
  split
  · exact registerAt_address t ‹_›
  · exact elementAt_address t (Nat.le_of_not_lt ‹_›)

section

variable {s : State} {t : Target}

/-- The address of a row within the capacities reaches the row. -/
theorem State.targetAt_addr (hp : t.present s.params = true) : s.targetAt t.addr = some t :=
  State.targetAt_of (Machine.targetAt_addr t) hp

/-- A row that gives an exact word reads it. -/
theorem reads_of_word {w : Word} (hp : t.present s.params = true) (hw : s.readTarget t = .word w) : Reads s t w :=
  hostRead_word (State.targetAt_addr hp) hw

/-- A row that gives a standing word reads the free word of its address. -/
theorem reads_of_standing (hp : t.present s.params = true) (hw : s.readTarget t = .standing) :
    Reads s t (freeWord s.draws t.addr) :=
  hostRead_standing (State.targetAt_addr hp) hw

/-- A result row reads its exact word while no command runs. -/
theorem reads_result {w : Word} (hb : s.busy = false) (hp : t.present s.params = true)
    (hw : s.readTarget t = s.resultRead (.word w)) : Reads s t w :=
  reads_of_word hp (hw.trans (State.resultRead_idle hb _))

/-- A row that takes a write takes it at its address. -/
theorem hostWrite_addr {u : State} {d : Word} (hp : t.present s.params = true) (hu : s.writeTarget d t = some u) :
    hostWrite t.addr d s = (u.answer (.write .okay)).draw :=
  hostWrite_accepted (State.targetAt_addr hp) hu

/-- A row that takes no write refuses it at its address, within the capacities or not. -/
theorem refuses_of_none {d : Word} (h : s.writeTarget d t = none) : Refuses s t.addr d := by
  refine hostWrite_refused ?_
  rw [State.targetAt, Machine.targetAt_addr, Option.filter_some]
  split
  · exact h
  · rfl

end

/-! The writes, each at its address -/

theorem hostWrite_nframes {s : State} (d : Word) (hb : s.busy = false) :
    hostWrite 0x3#32 d s = ((s.withNframes (d.extractLsb' 0 32)).answer (.write .okay)).draw :=
  hostWrite_addr (t := .nframes) rfl (by simp [State.writeTarget, hb])

theorem hostWrite_cmd {s : State} (d : Word) (hb : s.busy = false) :
    hostWrite 0x4#32 d s = ((s.start d (freeLatency s.draws)).answer (.write .okay)).draw :=
  hostWrite_addr (t := .cmd) rfl (by simp [State.writeTarget, hb])

theorem hostWrite_status (s : State) (d : Word) :
    hostWrite 0x5#32 d s = ((s.withStatus (s.status.w1c d)).answer (.write .okay)).draw :=
  hostWrite_addr (t := .status) rfl rfl

theorem hostWrite_irqen (s : State) (d : Word) :
    hostWrite 0x6#32 d s = ((s.withDoneIe (d.getLsbD 0)).answer (.write .okay)).draw :=
  hostWrite_addr (t := .irqen) rfl rfl

theorem hostWrite_tlsel (s : State) (d : Word) :
    hostWrite 0xC#32 d s = ((s.withTlsel (TlSel.ofWord d)).answer (.write .okay)).draw :=
  hostWrite_addr (t := .tlsel) rfl rfl

theorem hostWrite_frame {s : State} {i : Fin 65536} (d : Word) (hb : s.busy = false) (hi : i.val < s.params.nMax) :
    hostWrite (BitVec.ofNat 32 (0x10000 + i.val)) d s =
      ((s.withFrame (s.frame.write i.val d)).answer (.write .okay)).draw :=
  hostWrite_addr (t := .frame i) (decide_eq_true hi) (by simp [State.writeTarget, hb])

/-- Settles O12: the write of a frame word is the store into FRAME, and FRAME reads back the last store. -/
theorem frameWriteThenRead : Obligations.FrameWriteThenRead := by
  intro s i d hb hi
  rw [hostWrite_frame d hb hi]
  refine ⟨rfl, reads_of_word (decide_eq_true hi) ?_, fun j hj => ?_, fun h => ?_, rfl⟩
  · simp [State.readFrame, Memory.read_write_same]
  · exact Memory.read_write_ne s.frame d hj
  · exact Memory.write_wf i.val d h

/-! The words the registers with reserved bits read back -/

theorem lowWord_extract (d : Word) : lowWord (d.extractLsb' 0 32) = d &&& 0xFFFFFFFF#64 := by
  apply BitVec.eq_of_toNat_eq
  rw [lowWord_toNat, BitVec.toNat_and]
  exact (Nat.and_two_pow_sub_one_eq_mod d.toNat 32).symm

theorem irqenWord_withDoneIe (s : State) (d : Word) : (s.withDoneIe (d.getLsbD 0)).irqenWord = d &&& 0x1#64 := by
  apply BitVec.eq_of_toNat_eq
  rw [State.irqenWord_toNat, State.withDoneIe_doneIe, BitVec.toNat_and]
  exact (Nat.toNat_testBit ..).trans (by simp [Nat.and_one_is_mod])

/-- TLSEL keeps the fields PIX and IDX of the word written; both words are compared as their three fields. -/
theorem TlSel.word_ofWord (d : Word) : (TlSel.ofWord d).word = d &&& 0xFFFFFFFF0000003F#64 := by
  have mask : 0xFFFFFFFF0000003F#64 = BitVec.allOnes 32 ++ 0#26 ++ BitVec.allOnes 6 := by decide
  have fields : d = d.extractLsb' 32 32 ++ d.extractLsb' 6 26 ++ d.extractLsb' 0 6 := by
    rw [BitVec.extractLsb'_append_extractLsb'_eq_extractLsb' (by decide),
      BitVec.extractLsb'_append_extractLsb'_eq_extractLsb' (by decide)]
    exact BitVec.extractLsb'_eq_self.symm
  conv_rhs => rw [mask, fields]
  show d.extractLsb' 32 32 ++ 0#26 ++ d.extractLsb' 0 6 =
    (d.extractLsb' 32 32 ++ d.extractLsb' 6 26 ++ d.extractLsb' 0 6) &&& (BitVec.allOnes 32 ++ 0#26 ++ BitVec.allOnes 6)
  simp only [BitVec.and_append, BitVec.and_allOnes, BitVec.and_zero]

/-- Settles O13: each write stores the bits its register has, and the register reads them with zeros around them. -/
theorem registerWritesIgnoreReservedBits : Obligations.RegisterWritesIgnoreReservedBits := by
  intro s d
  rw [hostWrite_irqen, hostWrite_tlsel]
  refine ⟨reads_of_word rfl ?_, reads_of_word rfl ?_, fun hb => ?_, fun hb => ?_, rfl, rfl, fun hb => ?_⟩
  · exact congrArg ReadOut.word (irqenWord_withDoneIe s d)
  · exact congrArg ReadOut.word (TlSel.word_ofWord d)
  · rw [hostWrite_nframes d hb]
    exact reads_of_word rfl (congrArg ReadOut.word (lowWord_extract d))
  · rw [hostWrite_cmd d hb]
    exact reads_of_word rfl rfl
  · rw [hostWrite_nframes d hb]
    rfl

/-! The W1C write of STATUS -/

/-- Words of the layout of STATUS are masked field by field. -/
theorem statusFields_and (a a' : BitVec 48) (b b' : BitVec 8) (c c' : BitVec 4) (d d' e e' f f' g g' : BitVec 1) :
    (a ++ b ++ c ++ d ++ e ++ f ++ g : Word) &&& (a' ++ b' ++ c' ++ d' ++ e' ++ f' ++ g') =
      (a &&& a') ++ (b &&& b') ++ (c &&& c') ++ (d &&& d') ++ (e &&& e') ++ (f &&& f') ++ (g &&& g') := by
  show (_ ++ _ ++ _ ++ _ ++ _ ++ _ ++ _) &&& (_ ++ _ ++ _ ++ _ ++ _ ++ _ ++ _) = _ ++ _ ++ _ ++ _ ++ _ ++ _ ++ _
  simp only [BitVec.and_append]

/-- The mask of a W1C write, field by field of STATUS (10_state.md R26). -/
theorem w1cMask_fields (x y : Bool) :
    ~~~((if x then 0x2#64 else 0) ||| (if y then 0xF4#64 else 0)) =
      BitVec.allOnes 48 ++ BitVec.allOnes 8 ++ (if y then 0#4 else BitVec.allOnes 4) ++ BitVec.allOnes 1 ++
        BitVec.ofBool (!y) ++ BitVec.ofBool (!x) ++ BitVec.allOnes 1 := by
  cases x <;> cases y <;> decide

theorem Status.w1c_code (t : Status) (d : Word) :
    (t.w1c d).errcode.code = t.errcode.code &&& (if d.getLsbD 2 then 0#4 else BitVec.allOnes 4) := by
  rw [Status.w1c_errcode]
  split
  · exact BitVec.and_zero.symm
  · exact BitVec.and_allOnes.symm

/-- A W1C write masks the STATUS word. -/
theorem statusWord_withStatus_w1c (s : State) (d : Word) :
    (s.withStatus (s.status.w1c d)).statusWord =
      s.statusWord &&& ~~~((if d.getLsbD 1 then 0x2#64 else 0) ||| (if d.getLsbD 2 then 0xF4#64 else 0)) := by
  rw [w1cMask_fields, State.statusWord, State.statusWord, statusFields_and]
  simp only [BitVec.and_allOnes, BitVec.ofBool_and_ofBool, State.withStatus_status, State.withStatus_busy, Status.w1c_done,
    Status.w1c_err, Status.w1c_lastop, Status.w1c_code]

/-- Settles O14: the write masks the STATUS word, whether or not a command runs. -/
theorem statusIsWriteOneToClear : Obligations.StatusIsWriteOneToClear := by
  intro s d
  rw [hostWrite_status]
  refine ⟨reads_of_word rfl (congrArg ReadOut.word (statusWord_withStatus_w1c s d)), rfl, fun h => ?_, fun h => ?_, fun h => ?_,
    rfl⟩
  · show (s.status.done && !d.getLsbD 1) = !d.getLsbD 1
    rw [h, Bool.true_and]
  · show (s.status.err && !d.getLsbD 2) = false ∧ (if d.getLsbD 2 then .none else s.status.errcode) = ErrCode.none
    rw [h]
    exact ⟨Bool.and_false _, rfl⟩
  · show (s.status.err && !d.getLsbD 2) = s.status.err ∧ (if d.getLsbD 2 then .none else s.status.errcode) = s.status.errcode
    rw [h]
    exact ⟨Bool.and_true _, rfl⟩

end Sys2Proof.Machine
end

section
/-! What the rows of the map read: the constants, the results, the read-outs of timelines and diffs; and the irq line. -/

namespace Sys2Proof.Machine

open Sys2Proof Sys2Proof.Config Sys2Proof.Claims

/-! The constant registers -/

theorem paramsWord_eq (p : Params) :
    paramsWord p = if p.m3BoundsCheck then 0x000000000172F234#64 else 0x000000000072F234#64 := by
  apply BitVec.eq_of_toNat_eq
  rw [paramsWord_toNat]
  cases p.m3BoundsCheck <;> rfl

/-- Settles O15: the words are functions of the parameters, which fit their fields, and no row of them takes a write. -/
theorem constantRegisters : Obligations.ConstantRegisters := by
  intro s hp
  obtain ⟨⟨-, hn⟩, ⟨-, ho⟩, -⟩ := (Params.wellFormed_iff _).1 hp
  refine ⟨reads_of_word rfl rfl, reads_of_word rfl (congrArg ReadOut.word (paramsWord_eq s.params)),
    ⟨capsWord s.params, reads_of_word rfl rfl, ?_, ?_⟩,
    fun i => ⟨spiralWord s.params i, reads_of_word rfl rfl, spiralWord_toNat _ i⟩,
    fun d => ⟨refuses_of_none (t := .id) rfl, refuses_of_none (t := .params) rfl, refuses_of_none (t := .caps) rfl,
      fun i => refuses_of_none (t := .spiral i) rfl⟩⟩
  all_goals
    rw [capsWord_toNat]
    omega

/-! The reads while a command runs -/

/-- A result row gives a free draw while a command runs. -/
theorem State.readTarget_result_busy {s : State} {t : Target} (hb : s.busy = true) (ht : ResultRow t) :
    s.readTarget t = .drawn := by
  cases t
  case errinfo | totbits | outcnt | m3cnt | m3total | pixres | pixlen | m3res | out => exact State.resultRead_busy hb _
  all_goals exact ht.elim

theorem State.readTimeline_exact (s : State) (k : List Nat → Word) :
    (∃ w, s.readTimeline k = .word w) ∨ ∃ i, s.readTimeline k = .unwritten i := by
  unfold State.readTimeline
  split
  · exact .inl ⟨_, rfl⟩
  · split
    · exact .inl ⟨_, rfl⟩
    · split
      · exact .inr ⟨_, rfl⟩
      · exact .inl ⟨_, rfl⟩

theorem State.readDiff_exact (s : State) (i : Nat) : (∃ w, s.readDiff i = .word w) ∨ ∃ j, s.readDiff i = .unwritten j := by
  unfold State.readDiff
  split
  · split
    · exact .inl ⟨_, rfl⟩
    · exact .inr ⟨_, rfl⟩
    · exact .inr ⟨_, rfl⟩
  · exact .inl ⟨_, rfl⟩

theorem State.readFrame_exact (s : State) (i : Nat) : (∃ w, s.readFrame i = .word w) ∨ ∃ j, s.readFrame i = .unwritten j := by
  unfold State.readFrame
  split
  · exact .inl ⟨_, rfl⟩
  · exact .inr ⟨_, rfl⟩

/-- A row that is no result row gives an exact word, or needs a frame that is unwritten. -/
theorem State.readTarget_exact (s : State) {t : Target} (ht : ¬ResultRow t) :
    (∃ w, s.readTarget t = .word w) ∨ ∃ i, s.readTarget t = .unwritten i := by
  cases t
  case tldata =>
    rw [s.readTarget_tldata]
    exact s.readTimeline_exact _
  case tllen =>
    rw [s.readTarget_tllen]
    exact s.readTimeline_exact _
  case frame i => exact s.readFrame_exact i.val
  case diff i => exact s.readDiff_exact i.val
  case id | params | caps | nframes | cmd | status | irqen | tlsel | spiral => exact .inl ⟨_, rfl⟩
  all_goals exact absurd trivial ht

/-- What a row gives does not depend on the draw counter. -/
theorem State.readTarget_draws (s : State) (n : Nat) (t : Target) : State.readTarget { s with draws := n } t = s.readTarget t := by
  cases t <;> rfl

/-- Settles O16: the result rows are drawn while a command runs, and the others give an exact word or fault. -/
theorem resultReadsWhileBusyAreDraws : Obligations.ResultReadsWhileBusyAreDraws := by
  intro s t hb hp
  have hat : s.targetAt t.addr = some t := State.targetAt_addr hp
  refine ⟨fun ht => ?_, fun ht n u hu => ?_⟩
  · simp only [hostRead, hat, State.readTarget_result_busy hb ht]
  · rcases s.readTarget_exact ht with ⟨w, hw⟩ | ⟨i, hi⟩
    · rw [hostRead_word hat hw] at hu
      cases hu
      exact hostRead_word hat ((s.readTarget_draws n t).trans hw)
    · rw [hostRead_unwritten hat hi] at hu
      cases hu

/-! The results while no command runs -/

theorem validRead_held {m : Memory} {count i : Nat} {w : Word} (hi : i < count) (hw : m.read i = some w) :
    validRead m count i = .word w := by
  simp only [validRead, if_pos hi, hw]

theorem validRead_beyond {m : Memory} {count i : Nat} (hi : count ≤ i) : validRead m count i = .standing := by
  rw [validRead, if_neg (Nat.not_lt.2 hi)]

/-- Settles O17: the layout of each word is the weight of its fields, and the windows are held below their counts. -/
theorem resultRegisterLayouts : Obligations.ResultRegisterLayouts := by
  refine ⟨fun s => ⟨s.statusWord, reads_of_word rfl rfl, s.statusWord_toNat⟩, by decide, fun s hb =>
    ⟨fun i hi => ⟨fun w hc hw => ?_, fun hc => ?_⟩, fun i hi => ⟨fun w hc hw => ?_, fun hc => ?_⟩, ?_⟩⟩
  · exact reads_result hb (decide_eq_true hi) (congrArg s.resultRead (validRead_held hc hw))
  · exact reads_of_standing (decide_eq_true hi) ((State.resultRead_idle hb _).trans (validRead_beyond hc))
  · exact reads_result hb (decide_eq_true hi) (congrArg s.resultRead (validRead_held hc hw))
  · exact reads_of_standing (decide_eq_true hi) ((State.resultRead_idle hb _).trans (validRead_beyond hc))
  · exact ⟨⟨_, reads_result hb rfl rfl, lowWord_toNat _⟩, ⟨_, reads_result hb rfl rfl, lowWord_toNat _⟩,
      ⟨_, reads_result hb rfl rfl, lowWord_toNat _⟩, ⟨_, reads_result hb rfl rfl, lowWord_toNat _⟩,
      ⟨_, reads_result hb rfl rfl, s.errinfo.word_toNat⟩,
      fun p => ⟨_, reads_result hb rfl rfl, s.pixres[p].word_toNat⟩,
      fun p b => ⟨_, reads_result hb rfl rfl, lowWord_toNat _⟩⟩

/-! The read-outs of timelines -/

/-- A timeline has one element more than the diffs that flip its pixel (41_diff_timeline.md R124). -/
theorem timelineFrom_length (p : Pixel) (ds : List Word) (n : Nat) :
    (timelineFrom p ds n).length = 1 + ds.countP fun d => d.getLsbD p.val := by
  induction ds generalizing n with
  | nil => rfl
  | cons d ds ih =>
    rw [timelineFrom, List.countP_cons]
    split
    · rw [List.length_cons, ih, Nat.add_assoc]
    · exact ih _

/-- No element counts more diffs than there are. -/
theorem le_of_mem_timelineFrom {p : Pixel} {ds : List Word} {n v : Nat} (h : v ∈ timelineFrom p ds n) : v ≤ n + ds.length := by
  induction ds generalizing n with
  | nil => exact Nat.le_of_eq (List.mem_singleton.1 h)
  | cons d ds ih =>
    rw [timelineFrom] at h
    rw [List.length_cons]
    split at h
    · rcases List.mem_cons.1 h with rfl | h
      · omega
      · have := ih h
        omega
    · have := ih h
      omega

theorem timeline_length_le (ds : List Word) (p : Pixel) : (timeline ds p).length ≤ 1 + ds.length := by
  rw [timeline, timelineFrom_length]
  exact Nat.add_le_add_left List.countP_le_length 1

theorem le_of_mem_timeline {ds : List Word} {p : Pixel} {v : Nat} (h : v ∈ timeline ds p) : v ≤ ds.length :=
  (le_of_mem_timelineFrom h).trans_eq (Nat.zero_add _)

/-- The timeline of no diffs (41_diff_timeline.md R125). -/
theorem timeline_nil (p : Pixel) : timeline [] p = [0] := rfl

theorem State.diffList_length (s : State) : s.diffList.length = s.nframes.toNat - 1 := by
  rw [State.diffList, diffs_length, State.frameList_length]

theorem tlDataOf_some {t : List Nat} {idx v : Nat} (h : t[idx]? = some v) : tlDataOf t idx = tlDataWord v := by
  rw [tlDataOf, h]

theorem tlDataOf_beyond {t : List Nat} {idx : Nat} (h : t.length ≤ idx) : tlDataOf t idx = 0 := by
  rw [tlDataOf, List.getElem?_eq_none h]

/-- A read-out of a timeline is 0 when NFRAMES does not fit. -/
theorem State.readTimeline_tooMany {s : State} (h : ¬s.framesFit) (k : List Nat → Word) : s.readTimeline k = .word 0 := by
  rw [State.readTimeline, if_pos ((s.nframesTooMany_iff).2 h)]

theorem reads_tllen {s : State} {t : List Nat} (h : ∀ k, s.readTimeline k = .word (k t)) :
    Reads s .tllen (lowWord (BitVec.ofNat 32 t.length)) :=
  reads_of_word rfl (s.readTarget_tllen.trans (h _))

theorem reads_tldata {s : State} {t : List Nat} (h : ∀ k, s.readTimeline k = .word (k t)) :
    Reads s .tldata (tlDataOf t s.tlsel.idx.toNat) :=
  reads_of_word rfl (s.readTarget_tldata.trans (h _))

/-- Settles O18: the read-outs are those of no timeline, of the timeline `[0]`, or of the selected pixel's timeline, whose length
and elements the capacity bounds below 2^32. -/
theorem timelineReadouts : Obligations.TimelineReadouts := by
  intro s hp
  obtain ⟨⟨hlo, hhi⟩, -⟩ := (Params.wellFormed_iff _).1 hp
  refine ⟨fun h => ⟨?_, ?_⟩, fun hn => ?_, fun h => ?_⟩
  · exact reads_of_word rfl (s.readTarget_tldata.trans (State.readTimeline_tooMany h _))
  · exact reads_of_word rfl (s.readTarget_tllen.trans (State.readTimeline_tooMany h _))
  · have hread := State.readTimeline_short (s := s) (show s.nframes.toNat ≤ s.params.nMax by omega) hn
    have one : lowWord (BitVec.ofNat 32 1) = 1 := by decide
    have hlen := reads_tllen hread
    have hdata := reads_tldata hread
    rw [timeline_nil, List.length_singleton, one] at hlen
    rw [timeline_nil] at hdata
    refine ⟨hlen, fun hi => ?_, fun hi => ?_⟩
    · rw [hi] at hdata
      exact hdata
    · have hpos : 1 ≤ s.tlsel.idx.toNat := Nat.one_le_iff_ne_zero.2 fun e => hi (BitVec.eq_of_toNat_eq e)
      rwa [tlDataOf_beyond (show [0].length ≤ _ from hpos)] at hdata
  · have hread := State.readTimeline_ready h
    have hfit : s.nframes.toNat ≤ s.params.nMax := h.1
    have hds := s.diffList_length
    refine ⟨⟨_, reads_tllen hread, ?_⟩, fun v hv => ⟨tlDataWord v, ?_, ?_⟩, fun hi => ?_⟩
    · have hlen : (s.tl s.tlsel.pixel).length ≤ 1 + s.diffList.length := timeline_length_le _ _
      rw [lowWord_toNat]
      exact Nat.mod_eq_of_lt (by omega)
    · rw [← tlDataOf_some hv]
      exact reads_tldata hread
    · have hle : v ≤ s.diffList.length := le_of_mem_timeline (List.mem_of_getElem? hv)
      rw [tlDataWord_toNat, Nat.mod_eq_of_lt (by omega)]
    · rw [← tlDataOf_beyond hi]
      exact reads_tldata hread

/-! The DIFF window -/

theorem State.readDiff_beyond {s : State} {i : Nat} (h : ¬(s.framesFit ∧ i + 1 < s.nframes.toNat)) : s.readDiff i = .word 0 := by
  rw [State.readDiff, if_neg]
  simpa [Bool.eq_false_iff, State.nframesTooMany_iff] using h

theorem State.readDiff_written {s : State} {i : Nat} {f g : Word} (hfit : s.framesFit) (hi : i + 1 < s.nframes.toNat)
    (hf : s.frame.read i = some f) (hg : s.frame.read (i + 1) = some g) : s.readDiff i = .word (f ^^^ g) := by
  rw [State.readDiff, if_pos, hf, hg]
  simpa [Bool.eq_false_iff, State.nframesTooMany_iff] using ⟨hfit, hi⟩

/-- Settles O19: the window is the exclusive or of two written frames below NFRAMES, and 0 elsewhere. -/
theorem diffReadout : Obligations.DiffReadout := by
  intro s i hi
  exact ⟨fun h => reads_of_word (decide_eq_true hi) (State.readDiff_beyond h),
    fun f g hfit hn hf hg => reads_of_word (decide_eq_true hi) (State.readDiff_written hfit hn hf hg)⟩

/-! The irq line -/

theorem State.statusWord_getLsbD_one (s : State) : s.statusWord.getLsbD 1 = s.status.done := by
  have hbusy := s.busy.toNat_lt
  have hdone := s.status.done.toNat_lt
  have bit : s.statusWord.toNat / 2 ^ 1 % 2 = s.status.done.toNat := by
    rw [s.statusWord_toNat]
    omega
  rw [BitVec.getLsbD, Nat.testBit_eq_decide_div_mod_eq, bit]
  cases s.status.done <;> rfl

theorem State.irqenWord_getLsbD_zero (s : State) : s.irqenWord.getLsbD 0 = s.doneIe := by
  rw [BitVec.getLsbD, s.irqenWord_toNat]
  cases s.doneIe <;> rfl

theorem State.answer_draw_irq (s : State) (r : Answer) : (s.answer r).draw.irq = s.irq := rfl

/-- After a completion or a failure irq is DONE_IE. -/
theorem State.EndsFrom.irq {t s : State} (h : t.EndsFrom s) : t.irq = s.doneIe := by
  obtain ⟨u, hside, -, -, hend⟩ := h
  simp only [State.hostSide, Prod.mk.injEq] at hside
  obtain ⟨-, -, -, hie, -⟩ := hside
  rcases hend with rfl | ⟨code, index, b, -, rfl⟩
  · rw [State.complete_irq, hie]
  · rw [State.fail_irq, hie]

/-- Settles O58: irq is its two bits, a completion of any kind sets DONE, and a W1C write, a start and reset clear it. -/
theorem irqFollowsDoneAndEnable : Obligations.IrqFollowsDoneAndEnable := by
  refine ⟨fun s => ?_, fun w s t h => (runCommand_next h).irq, fun s d hd => ?_, fun s w hb => ?_, rfl, State.assertReset_irq⟩
  · rw [s.statusWord_getLsbD_one, s.irqenWord_getLsbD_zero, State.irq]
  · rw [hostWrite_status, State.answer_draw_irq]
    simp only [State.irq, State.withStatus_status, Status.w1c_done, hd, Bool.not_true, Bool.and_false, Bool.false_and]
  · rw [hostWrite_cmd w hb, State.answer_draw_irq, State.start_irq]

end Sys2Proof.Machine
end

section
/-! The address map both ways: which rows the windows and the registers hold, and which addresses are reserved. -/

namespace Sys2Proof.Machine

open Sys2Proof Sys2Proof.Config Sys2Proof.Claims

theorem windowAt_eq_some_iff {base size n : Nat} {mk : Fin size → Target} {t : Target} :
    windowAt base size n mk = some t ↔ ∃ k : Fin size, base + k.val = n ∧ mk k = t := by
  constructor
  · intro h
    unfold windowAt at h
    split at h
    · rename_i hn
      exact ⟨⟨n - base, by omega⟩, Nat.add_sub_cancel' hn.1, Option.some.inj h⟩
    · cases h
  · rintro ⟨k, rfl, rfl⟩
    exact windowAt_base_add base k mk

theorem windowAt_eq_none_iff {base size n : Nat} {mk : Fin size → Target} :
    windowAt base size n mk = none ↔ n < base ∨ base + size ≤ n := by
  unfold windowAt
  split
  · simp only [reduceCtorEq, false_iff]
    omega
  · simp only [true_iff]
    omega

theorem Target.toNat_addr (t : Target) : t.addr.toNat = t.address := Nat.mod_eq_of_lt t.address_lt

theorem pixlenTarget_address (k : Fin 1024) : (pixlenTarget k).address = 0x400 + k.val := by
  simp only [pixlenTarget, Target.address]
  omega

/-- A row found among the windows is found at its own address. -/
theorem address_of_elementAt {n : Nat} {t : Target} (h : elementAt n = some t) : t.address = n := by
  simp only [elementAt, Option.orElse_eq_orElse, Option.orElse_eq_or, Option.or_eq_some_iff, windowAt_eq_some_iff] at h
  rcases h with ⟨k, rfl, rfl⟩ | ⟨-, ⟨k, rfl, rfl⟩ | ⟨-, ⟨k, rfl, rfl⟩ | ⟨-, ⟨k, rfl, rfl⟩ | ⟨-, ⟨k, rfl, rfl⟩ |
    ⟨-, ⟨k, rfl, rfl⟩ | ⟨-, ⟨k, rfl, rfl⟩⟩⟩⟩⟩⟩⟩
  · rfl
  · exact pixlenTarget_address k
  all_goals rfl

/-- A row found among the registers is found at its own address. -/
theorem address_of_registerAt {n : Nat} {t : Target} (h : registerAt n = some t) : t.address = n := by
  unfold registerAt at h
  split at h <;> cases h <;> rfl

/-- The map finds a row at its address and nowhere else (20_memory.md R64). -/
theorem targetAt_eq_some_iff {a : Addr} {t : Target} : Machine.targetAt a = some t ↔ t.addr = a := by
  refine ⟨fun h => BitVec.eq_of_toNat_eq ?_, fun h => h ▸ targetAt_addr t⟩
  rw [t.toNat_addr]
  unfold Machine.targetAt at h
  split at h
  · exact address_of_registerAt h
  · exact address_of_elementAt h

theorem registerAt_eq_none_iff {n : Nat} : registerAt n = none ↔ 0xE < n := by
  have held : ∀ n, n < 0xF → registerAt n ≠ none := by decide
  refine ⟨fun h => Nat.lt_of_not_le fun hn => held n (Nat.lt_succ_of_le hn) h, fun h => ?_⟩
  obtain ⟨k, rfl⟩ := Nat.exists_eq_add_of_le' h
  rfl

theorem elementAt_eq_none_iff {n : Nat} :
    elementAt n = none ↔
      (n < 0x100 ∨ 0x140 ≤ n) ∧ (n < 0x400 ∨ 0x800 ≤ n) ∧ (n < 0x800 ∨ 0x840 ≤ n) ∧ (n < 0x10000 ∨ 0x20000 ≤ n) ∧
        (n < 0x20000 ∨ 0x30000 ≤ n) ∧ (n < 0x30000 ∨ 0x40000 ≤ n) ∧ (n < 0x100000 ∨ 0x200000 ≤ n) := by
  simp only [elementAt, Option.orElse_eq_orElse, Option.orElse_eq_or, Option.or_eq_none_iff, windowAt_eq_none_iff]

/-- The reserved addresses are those outside the ranges of the table (20_memory.md R64). -/
theorem targetAt_eq_none_iff {a : Addr} : Machine.targetAt a = none ↔ ¬MappedAddress a.toNat := by
  unfold Machine.targetAt MappedAddress
  split
  · rw [registerAt_eq_none_iff]
    omega
  · rw [elementAt_eq_none_iff]
    omega

/-- Settles O8: the addresses are those of the table, and the map inverts them. -/
theorem addressMapIsOneToOne : Obligations.AddressMapIsOneToOne := by
  refine ⟨by decide, ⟨fun p => (Target.pixres p).toNat_addr, fun p b => ?_, fun i => (Target.spiral i).toNat_addr,
    fun i => (Target.frame i).toNat_addr, fun i => (Target.diff i).toNat_addr, fun i => (Target.m3res i).toNat_addr,
    fun i => (Target.out i).toNat_addr⟩, targetAt_addr, fun _ _ => targetAt_eq_some_iff.1, fun _ => targetAt_eq_none_iff⟩
  exact (Target.pixlen p b).toNat_addr.trans (Nat.add_assoc ..).symm

end Sys2Proof.Machine
end

section
/-! What the host port answers and leaves unchanged: refused and accepted writes, ERROR responses, reads. -/

namespace Sys2Proof.Machine

open Sys2Proof Sys2Proof.Config Sys2Proof.Claims

/-! Writes -/

/-- Settles O7: the rows NFRAMES, CMD and FRAME take no write while a command runs, the others of the host do. -/
theorem writesWhileBusy : Obligations.WritesWhileBusy := by
  intro s d hb
  have refused : ∀ u : State, (if s.busy then none else some u) = none := fun _ => if_pos hb
  refine ⟨refuses_of_none (t := .nframes) (refused _), refuses_of_none (t := .cmd) (refused _),
    fun i => refuses_of_none (t := .frame i) (refused _), ?_, ?_, ?_⟩
  · rw [hostWrite_status]
    rfl
  · rw [hostWrite_irqen]
    rfl
  · rw [hostWrite_tlsel]
    rfl

/-- A row of the block that takes a write has a writable address (20_memory.md R65). -/
theorem writableAddress_of_writeTarget {s u : State} {d : Word} {t : Target} (hp : t.present s.params = true)
    (hu : s.writeTarget d t = some u) : WritableAddress s.params t.address := by
  rcases State.writeTarget_some hu with ⟨rfl, -⟩ | ⟨rfl, -⟩ | ⟨rfl, -⟩ | ⟨rfl, -⟩ | ⟨rfl, -⟩ | ⟨i, rfl, -⟩
  · exact .inl rfl
  · exact .inr (.inl rfl)
  · exact .inr (.inr (.inl rfl))
  · exact .inr (.inr (.inr (.inl rfl)))
  · exact .inr (.inr (.inr (.inr (.inl rfl))))
  · have hi : i.val < s.params.nMax := of_decide_eq_true hp
    simp only [WritableAddress, Target.address]
    omega

/-- While no command runs a writable address takes every write. -/
theorem hostWrite_writable {s : State} {a : Addr} (d : Word) (ha : WritableAddress s.params a.toNat) (hb : s.busy = false) :
    (hostWrite a d s).port = some (.write .okay) := by
  have at_addr : ∀ n, a.toNat = n → a = BitVec.ofNat 32 n := fun n h => by rw [← h, BitVec.ofNat_toNat, BitVec.setWidth_eq]
  rcases ha with h | h | h | h | h | ⟨hlo, hhi, hcap⟩
  · rw [at_addr _ h, hostWrite_nframes d hb]
    rfl
  · rw [at_addr _ h, hostWrite_cmd d hb]
    rfl
  · rw [at_addr _ h, hostWrite_status]
    rfl
  · rw [at_addr _ h, hostWrite_irqen]
    rfl
  · rw [at_addr _ h, hostWrite_tlsel]
    rfl
  · rw [at_addr _ (Nat.add_sub_cancel' hlo).symm, hostWrite_frame (i := ⟨a.toNat - 0x10000, by omega⟩) d hb hcap]
    rfl

/-- Settles O10: what a write reaches and is taken by is a row with a writable address, and these rows take it. -/
theorem writesAreAcceptedWhereTheMapSays : Obligations.WritesAreAcceptedWhereTheMapSays := by
  refine fun s a d => ⟨fun hn => ?_, hostWrite_writable d⟩
  rcases hostWrite_cases a d s with ⟨-, e⟩ | ⟨t, u, ht, hu, -⟩
  · exact e
  · obtain ⟨hmap, hp⟩ := State.targetAt_some ht
    refine absurd ?_ hn
    rw [← targetAt_eq_some_iff.1 hmap, t.toNat_addr]
    exact writableAddress_of_writeTarget hp hu

/-! Absent rows -/

theorem beyondCapacity_address_iff {p : Params} {t : Target} : BeyondCapacity p t.address ↔ t.present p = false := by
  cases t
  case frame | diff | m3res | out =>
    simp only [BeyondCapacity, Target.address, Target.present, decide_eq_false_iff_not]
    omega
  all_goals
    simp only [BeyondCapacity, Target.address, Target.present, Bool.true_eq_false, iff_false]
    omega

/-- An access reaches nothing exactly at the reserved addresses and beyond the capacities (20_memory.md R65). -/
theorem State.targetAt_eq_none_iff {s : State} {a : Addr} :
    s.targetAt a = none ↔ ¬MappedAddress a.toNat ∨ BeyondCapacity s.params a.toNat := by
  cases h : Machine.targetAt a with
  | none => simp [State.targetAt, h, Machine.targetAt_eq_none_iff.1 h]
  | some t =>
    have mapped : MappedAddress a.toNat := by
      by_contra hn
      simp [Machine.targetAt_eq_none_iff.2 hn] at h
    obtain rfl := targetAt_eq_some_iff.1 h
    rw [State.targetAt, h, Option.filter_eq_none_iff, t.toNat_addr, beyondCapacity_address_iff]
    rw [t.toNat_addr] at mapped
    simp [mapped]

/-! Reads -/

/-- The inversion of a read that answers: the block has no such row, or the row gives its word. -/
theorem hostRead_cases {a : Addr} {s t : State} (h : hostRead a s = .next t) :
    (s.targetAt a = none ∧ t = s.answer (.read 0 .error)) ∨
    ∃ x, s.targetAt a = some x ∧
      ((∃ w, s.readTarget x = .word w ∧ t = s.answer (.read w .okay)) ∨
        (s.readTarget x = .standing ∧ t = s.answer (.read (freeWord s.draws a) .okay)) ∨
        (s.readTarget x = .drawn ∧ t = (s.answer (.read (freeWord s.draws a) .okay)).draw)) := by
  unfold hostRead at h
  split at h
  · cases h
    exact .inl ⟨‹_›, rfl⟩
  · refine .inr ⟨_, ‹_›, ?_⟩
    split at h
    · cases h
      exact .inl ⟨_, ‹_›, rfl⟩
    · cases h
      exact .inr (.inl ⟨‹_›, rfl⟩)
    · cases h
      exact .inr (.inr ⟨‹_›, rfl⟩)
    · cases h

/-- The answer of the port is no part of what a row gives. -/
theorem State.readTarget_answer (s : State) (r : Answer) (x : Target) : (s.answer r).readTarget x = s.readTarget x := by
  cases x <;> rfl

/-- Settles O9: ERROR is the answer of an absent row, and the answer is all that it changes. -/
theorem errorResponsesDoNothing : Obligations.ErrorResponsesDoNothing := by
  refine ⟨fun s t a d h hp => ?_, fun s a d hp => ?_, fun s a ha => ?_⟩
  · rcases hostRead_cases h with ⟨-, rfl⟩ | ⟨x, -, ⟨w, -, rfl⟩ | ⟨-, rfl⟩ | ⟨-, rfl⟩⟩
    · cases hp
      exact ⟨rfl, rfl⟩
    all_goals cases hp
  · rcases hostWrite_cases a d s with ⟨-, e⟩ | ⟨t, u, -, -, e⟩
    · exact e
    · rw [e] at hp
      cases hp
  · have hnone : s.targetAt a = none := State.targetAt_eq_none_iff.2 ha
    exact ⟨hostRead_absent hnone, fun d => hostWrite_refused (by rw [hnone, Option.bind_none])⟩

/-- Settles O11: a read answers, and while no command runs the row gives the same word to the next read. -/
theorem readsHaveNoSideEffects : Obligations.ReadsHaveNoSideEffects := by
  intro s t a h
  rcases hostRead_cases h with ⟨hnone, rfl⟩ | ⟨x, hx, ⟨w, hw, rfl⟩ | ⟨hw, rfl⟩ | ⟨hw, rfl⟩⟩
  · exact ⟨rfl, fun _ => ⟨rfl, hostRead_absent hnone⟩⟩
  · exact ⟨rfl, fun _ => ⟨rfl, hostRead_word hx ((s.readTarget_answer _ x).trans hw)⟩⟩
  · exact ⟨rfl, fun _ => ⟨rfl, hostRead_standing hx ((s.readTarget_answer _ x).trans hw)⟩⟩
  · exact ⟨rfl, fun hb => absurd (State.readTarget_drawn hw) (by simp [hb])⟩

end Sys2Proof.Machine
end

section
/-! What commands and host moves leave unchanged: the results of other commands, and everything published while a command
runs. -/

namespace Sys2Proof.Machine

open Sys2Proof Sys2Proof.Config Sys2Proof.Claims

/-! The ends of commands -/

/-- An end keeps the host's side and LASTOP, sets DONE and ends BUSY (45_command_control.md R211). -/
theorem State.EndsFrom.frame {t s : State} (h : t.EndsFrom s) :
    t.hostSide = s.hostSide ∧ t.status.lastop = s.status.lastop ∧ t.status.done = true ∧ t.busy = false := by
  obtain ⟨u, hside, hstatus, -, rfl | ⟨code, index, b, -, rfl⟩⟩ := h
  · exact ⟨hside, congrArg (·.lastop) hstatus, rfl, rfl⟩
  · exact ⟨hside, congrArg (·.lastop) hstatus, rfl, rfl⟩

/-- SELECT writes the per-pixel results only. -/
theorem exec_select_keeps {s t : State} (h : exec .select s = .next t) :
    t.serialSide = s.serialSide ∧ t.spiralSide = s.spiralSide := by
  rcases State.withFrames_next ((exec_select s).symm.trans h) with ⟨-, rfl⟩ | ⟨-, hk⟩
  · exact ⟨rfl, rfl⟩
  · cases hk
    exact ⟨rfl, rfl⟩

/-- SERIALIZE writes no result of SPIRAL. -/
theorem exec_serialize_keeps {s t : State} (h : exec .serialize s = .next t) : t.spiralSide = s.spiralSide := by
  rcases State.withFrames_next ((exec_serialize s).symm.trans h) with ⟨-, rfl⟩ | ⟨-, hk⟩
  · rfl
  · cases hk
    rcases (s.writePixels (diffs s.frameList)).serializeDiffs_cases (diffs s.frameList) with
      ⟨-, e⟩ | ⟨-, p, b, -, e⟩ | ⟨-, -, -, e⟩ | ⟨-, -, -, e⟩ <;> rw [e] <;> rfl

/-- SPIRAL writes its own results only. -/
theorem exec_spiral_keeps {src : Src} {s t : State} (h : exec (.spiral src) s = .next t) :
    t.pixelSide = s.pixelSide ∧ t.serialSide = s.serialSide := by
  rcases State.withFrames_next ((exec_spiral src s).symm.trans h) with ⟨-, rfl⟩ | ⟨-, hk⟩
  · exact ⟨rfl, rfl⟩
  · cases hk
    rcases s.spiralMasks_cases (selectMasks src s.frameList) with ⟨i, b, -, e⟩ | ⟨-, e⟩ <;> rw [e] <;> exact ⟨rfl, rfl⟩

/-- Settles O31: every next state is an end of the command, and each command writes its own results. -/
theorem commandsWriteOnlyTheirOwnResults : Obligations.CommandsWriteOnlyTheirOwnResults := by
  intro i s t h
  obtain ⟨hside, hlast, hdone, hbusy⟩ := (exec_next h).frame
  refine ⟨hside, hlast, hdone, hbusy, ?_, ?_, ?_⟩
  · rintro (rfl | ⟨src, rfl⟩)
    · cases h
      rfl
    · exact (exec_spiral_keeps h).1
  · rintro (rfl | rfl | ⟨src, rfl⟩)
    · cases h
      rfl
    · exact (exec_select_keeps h).1
    · exact (exec_spiral_keeps h).2
  · rintro (rfl | rfl | rfl)
    · cases h
      rfl
    · exact (exec_select_keeps h).2
    · exact exec_serialize_keeps h

/-! The host's moves while a command runs -/

/-- The results and the inputs that stand while a command runs (20_memory.md R67, R70). -/
def State.published (s : State) :=
  (s.pixelSide, s.serialSide, s.spiralSide, s.errinfo, s.nframes, s.cmd, s.frame, s.status.lastop)

/-- A read writes none of it. -/
theorem hostRead_published {a : Addr} {s t : State} (h : hostRead a s = .next t) : t.published = s.published := by
  obtain ⟨w, r, rfl | ⟨-, rfl⟩⟩ := hostRead_next h <;> rfl

/-- While a command runs a write reaches none of it. -/
theorem hostWrite_published {s : State} (hb : s.busy = true) (a : Addr) (d : Word) :
    (hostWrite a d s).published = s.published := by
  rcases hostWrite_cases a d s with ⟨-, e⟩ | ⟨x, u, -, hu, e⟩ <;> rw [e]
  · rfl
  · have idle : ¬s.busy = false := by simp [hb]
    rcases State.writeTarget_some hu with ⟨-, hi, -⟩ | ⟨-, hi, -⟩ | ⟨-, rfl⟩ | ⟨-, rfl⟩ | ⟨-, rfl⟩ | ⟨i, -, hi, -⟩
    · exact absurd hi idle
    · exact absurd hi idle
    · rfl
    · rfl
    · rfl
    · exact absurd hi idle

/-- A move of the host during a command that is no reset writes none of it. -/
theorem hostMove_published {m : Move} {s t : State} (hb : s.busy = true) (h : hostMove m s = .next t) (ht : t.busy = true) :
    t.published = s.published := by
  rcases hostMove_cases h with ⟨a, -, -, hread⟩ | ⟨a, d, -, -, rfl⟩ | ⟨-, -, rfl⟩ | ⟨-, rfl⟩ | ⟨-, rfl⟩ | ⟨-, rfl⟩
  · exact hostRead_published hread
  · exact hostWrite_published hb a d
  · split <;> rfl
  · split <;> rfl
  · exact absurd ht (by simp)
  · rfl

/-- A step during a command that neither completes nor abandons it writes none of it. -/
theorem step_published {s t : State} (hb : s.busy = true) (h : step s = .next t) (ht : t.busy = true) :
    t.published = s.published := by
  obtain ⟨w, n, hrun⟩ := (State.busy_iff s).1 hb
  rcases step_cases s with ⟨w', n', -, -, e⟩ | ⟨hidle, -⟩ | ⟨m, ms, w', n', -, -, e⟩ | ⟨m, ms, hidle, -⟩
  · rw [e] at h
    obtain ⟨-, -, -, hend⟩ := (runCommand_next h).frame
    simp [ht] at hend
  · simp [hrun] at hidle
  · rw [e] at h
    exact (hostMove_published rfl h ht).trans rfl
  · simp [hrun] at hidle

/-- Settles O55: what is published is that tuple. -/
theorem resultsArePublishedAtCompletion : Obligations.ResultsArePublishedAtCompletion := by
  intro s t hb h ht
  have kept := step_published hb h ht
  simp only [State.published, Prod.mk.injEq] at kept
  obtain ⟨hpix, hserial, hspiral, hinfo, hn, hcmd, hframe, hlast⟩ := kept
  exact ⟨hpix, hserial, hspiral, hinfo, hn, hcmd, fun i => by rw [hframe], hlast⟩

end Sys2Proof.Machine
end

section
/-! The encoding: the fields of a command word, what the decoder answers for them, the layout of a frame, and the
host's polling wait. -/

namespace Sys2Proof

open Sys2Proof.Claims

/-! The fields of a command word -/

/-- A command word is its three fields, and they are read back from it (30_encoding.md R90). -/
theorem append_fields_eq_iff {r : BitVec 55} {src : BitVec 1} {op : BitVec 8} {w : Word} :
    (r ++ src ++ op : Word) = w ↔ reservedField w = r ∧ srcField w = src ∧ opField w = op := by
  have hr := r.isLt
  have hsrc := src.isLt
  have hop := op.isLt
  have hw := w.isLt
  have value : BitVec.toNat (r ++ src ++ op) = r.toNat * 512 + src.toNat * 256 + op.toNat := by
    simp only [Machine.append_toNat]
    omega
  simp only [← BitVec.toNat_inj, value, BitVec.extractLsb'_toNat, Nat.shiftRight_eq_div_pow]
  omega

theorem encode_eq_iff {i : Instr} {w : Word} :
    encode i = w ↔ reservedField w = 0#55 ∧ srcField w = i.src ∧ opField w = i.op := append_fields_eq_iff

/-! The decoder -/

theorem decodeOp_op_src (i : Instr) : decodeOp i.op i.src = .ok i := by
  cases i with
  | spiral src => cases src <;> rfl
  | nop | clear | select | serialize => rfl

/-- The only operand is SPIRAL's, and no opcode is beyond it (30_encoding.md R91, R92). -/
theorem Instr.op_src_legal (i : Instr) : i.op.toNat < 5 ∧ (i.src.toNat = 1 → i.op.toNat = 4) := by
  cases i with
  | spiral src => exact ⟨Nat.lt_succ_self 4, fun _ => rfl⟩
  | nop | clear | select | serialize => decide

/-- The inversion of the decoder's choice: the instruction with these fields, or an illegal OP or SRC. -/
theorem decodeOp_cases (op : BitVec 8) (src : BitVec 1) :
    (∃ i, decodeOp op src = .ok i ∧ i.src = src ∧ i.op = op) ∨
    (∃ e, decodeOp op src = .error e ∧ (5 ≤ op.toNat ∨ (src.toNat = 1 ∧ op.toNat ≠ 4))) := by
  have src_zero : src ≠ 1#1 → 0#1 = src := by bv_omega
  unfold decodeOp
  split
  · rename_i hop
    refine .inl ⟨_, rfl, ?_, hop.symm⟩
    split
    · exact Eq.symm ‹_›
    · exact src_zero ‹_›
  split
  · exact .inr ⟨_, rfl, .inl ‹_›⟩
  split
  · exact .inr ⟨_, rfl, .inr (by bv_omega)⟩
  rename_i h4 h5 hsrc
  split
  · exact .inl ⟨_, rfl, src_zero hsrc, Eq.symm ‹_›⟩
  split
  · exact .inl ⟨_, rfl, src_zero hsrc, Eq.symm ‹_›⟩
  split
  · exact .inl ⟨_, rfl, src_zero hsrc, Eq.symm ‹_›⟩
  · refine .inl ⟨_, rfl, src_zero hsrc, ?_⟩
    show 0x03#8 = op
    bv_omega

theorem decodeOp_eq_ok_iff {op : BitVec 8} {src : BitVec 1} {i : Instr} :
    decodeOp op src = .ok i ↔ src = i.src ∧ op = i.op := by
  constructor
  · intro h
    rcases decodeOp_cases op src with ⟨j, hj, hsrc, hop⟩ | ⟨e, he, -⟩
    · rw [h] at hj
      cases hj
      exact ⟨hsrc.symm, hop.symm⟩
    · rw [h] at he
      cases he
  · rintro ⟨rfl, rfl⟩
    exact decodeOp_op_src i

theorem decodeOp_eq_error_iff {op : BitVec 8} {src : BitVec 1} :
    (∃ e, decodeOp op src = .error e) ↔ 5 ≤ op.toNat ∨ (src.toNat = 1 ∧ op.toNat ≠ 4) := by
  rcases decodeOp_cases op src with ⟨i, hi, rfl, rfl⟩ | ⟨e, he, hill⟩
  · obtain ⟨hop, hsrc⟩ := i.op_src_legal
    simp only [hi, reduceCtorEq, exists_false, false_iff]
    omega
  · exact iff_of_true ⟨e, he⟩ hill

/-- The illegal words of 30_encoding.md R93, by their fields. -/
theorem illegalWord_iff_fields {w : Word} :
    IllegalWord w ↔ reservedField w ≠ 0#55 ∨ 5 ≤ (opField w).toNat ∨ ((srcField w).toNat = 1 ∧ (opField w).toNat ≠ 4) := by
  have hw := w.isLt
  simp only [IllegalWord, ne_eq, ← BitVec.toNat_inj, BitVec.extractLsb'_toNat, Nat.shiftRight_eq_div_pow, BitVec.toNat_ofNat]
  omega

/-- Settles O2: both sides say that the reserved field is zero and SRC and OP are those of the instruction. -/
theorem decodeIsTheInverseOfEncode : Obligations.DecodeIsTheInverseOfEncode := by
  intro w i
  rw [encode_eq_iff, decode]
  split
  · rename_i hres
    rw [decodeOp_eq_ok_iff, and_iff_right hres]
  · rename_i hres
    exact iff_of_false (by simp) fun ⟨h, _⟩ => hres h

/-- Settles O3: a word with a reserved bit set is refused at once, and any other for its OP or SRC. -/
theorem illegalWordsAreRefused : Obligations.IllegalWordsAreRefused := by
  intro w
  rw [illegalWord_iff_fields, decode]
  split
  · rename_i hres
    rw [decodeOp_eq_error_iff, or_iff_right (not_not_intro hres)]
  · rename_i hres
    exact iff_of_true ⟨_, rfl⟩ (.inl hres)

/-- Settles O1: the words are the encodings, and decoding is the inverse of encoding. -/
theorem commandWordsDecodeAsListed : Obligations.CommandWordsDecodeAsListed := by
  have words : encode .nop = 0x0#64 ∧ encode .clear = 0x1#64 ∧ encode .select = 0x2#64 ∧ encode .serialize = 0x3#64 ∧
      encode (.spiral .frames) = 0x4#64 ∧ encode (.spiral .diffs) = 0x104#64 := by decide
  refine ⟨words, ?_⟩
  simpa only [← decodeIsTheInverseOfEncode _ _] using words

end Sys2Proof

namespace Sys2Proof.Machine

open Sys2Proof Sys2Proof.Claims

/-! The frame layout -/

theorem bitIndex_eq (x y : Fin 8) : bitIndex x y = 56 - 8 * y.val + x.val := by
  unfold bitIndex
  omega

theorem bitIndex_lt (x y : Fin 8) : bitIndex x y < 64 := by
  rw [bitIndex_eq]
  omega

/-- The bit of a cell, and the cell of a bit (30_encoding.md R95, R96). -/
theorem bitIndex_eq_iff {p : Nat} {x y : Fin 8} (hp : p < 64) :
    bitIndex x y = p ↔ x.val = p % 8 ∧ y.val = 7 - p / 8 := by
  rw [bitIndex_eq]
  omega

theorem bitIndex_inj {x y x' y' : Fin 8} : bitIndex x' y' = bitIndex x y ↔ x' = x ∧ y' = y := by
  rw [bitIndex_eq, bitIndex_eq]
  omega

/-- When each turn of a loop over words ORs one condition into bit p, the loop ORs in whether any turn's condition holds. -/
theorem getLsbD_foldl_or {α : Type} {f : Word → α → Word} {g : α → Bool} {p : Nat}
    (h : ∀ m a, (f m a).getLsbD p = (m.getLsbD p || g a)) (l : List α) (m : Word) :
    (l.foldl f m).getLsbD p = (m.getLsbD p || l.any g) := by
  induction l generalizing m with
  | nil => simp
  | cons a l ih => rw [List.foldl_cons, ih, h, List.any_cons, Bool.or_assoc]

/-- One turn of the loop of `frameMask`. -/
theorem getLsbD_or_bit (c : Bool) (m : Word) (k : Nat) {p : Nat} (hp : p < 64) :
    (if c then m ||| (1#64 <<< k) else m).getLsbD p = (m.getLsbD p || (c && decide (k = p))) := by
  cases c with
  | false => simp
  | true =>
    have bit : (!decide (p < k) && decide (p - k = 0)) = decide (k = p) := by
      rw [← decide_not, ← Bool.decide_and, decide_eq_decide]
      omega
    simp [hp, bit]

/-- A bit of a mask is set when some lit cell stands there. -/
theorem frameMask_getLsbD (lit : Fin 8 → Fin 8 → Bool) {p : Nat} (hp : p < 64) :
    (frameMask lit).getLsbD p =
      (List.finRange 8).any fun y => (List.finRange 8).any fun x => lit x y && decide (bitIndex x y = p) := by
  rw [frameMask, getLsbD_foldl_or fun m y => getLsbD_foldl_or (fun m x => getLsbD_or_bit (lit x y) m (bitIndex x y) hp) _ m]
  simp

/-- Settles O37: no two cells share a bit, so the bit of a cell is set exactly when that cell is lit. -/
theorem frameLayout : Obligations.FrameLayout := by
  refine ⟨fun lit x y => ?_, bitIndex_eq, fun p _ _ => bitIndex_eq_iff p.isLt⟩
  rw [frameMask_getLsbD lit (bitIndex_lt x y), Bool.eq_iff_iff]
  simp [bitIndex_inj]

/-! The polling wait -/

theorem State.statusWord_getLsbD_zero (s : State) : s.statusWord.getLsbD 0 = s.busy := by
  show BitVec.getLsbD (_ ++ BitVec.ofBool s.busy) 0 = _
  rw [BitVec.getLsbD_append]
  simp

/-- With reset released the host's wait is one poll. -/
theorem hostMove_wait {s : State} (hr : s.rst = false) : hostMove .wait s = hostWait s := by
  rw [hostMove, State.whenReleased, hr]
  rfl

/-- On an idle block the wait is done. -/
theorem hostMove_wait_idle {s : State} (hr : s.rst = false) (hb : s.busy = false) :
    hostMove .wait s = .next (s.answer (.read s.statusWord .okay)) := by
  rw [hostMove_wait hr, hostWait_eq, hb]
  rfl

/-- On a block that runs a command the wait stays. -/
theorem hostMove_wait_busy {s : State} (hr : s.rst = false) (hb : s.busy = true) :
    hostMove .wait s = .next ((s.withMoves (.wait :: s.moves)).answer (.read s.statusWord .okay)) := by
  rw [hostMove_wait hr, hostWait_eq, hb]
  rfl

/-- STATUS tells that a command runs, and not how many host moves it still lets pass. -/
theorem State.statusWord_withSeq_running {s : State} (hb : s.busy = true) (w : Word) (n : Nat) :
    (s.withSeq (.running w n)).statusWord = s.statusWord := by
  rw [State.statusWord, State.statusWord, hb]
  rfl

/-- Settles O59: the step is the host's poll, and bit 0 of the answer is BUSY. -/
theorem waitPollsUntilIdle : Obligations.WaitPollsUntilIdle := by
  intro s ms hr hm
  refine ⟨fun hidle => ?_, fun c n hrun => ?_⟩
  · have hb : s.busy = false := s.not_busy_iff.2 hidle
    refine ⟨_, ?_, rfl, s.statusWord_getLsbD_zero.trans hb⟩
    rw [step_host_idle hidle hm]
    exact hostMove_wait_idle (s := s.withMoves ms) hr hb
  · have hb : s.busy = true := s.busy_iff.2 ⟨_, _, hrun⟩
    have stays : (s.withSeq (.running c n)).withMoves (.wait :: ms) = s.withSeq (.running c n) := by
      rw [← hm]
      rfl
    refine ⟨_, ?_, rfl, s.statusWord_getLsbD_zero.trans hb⟩
    rw [step_host_running hrun hm, ← State.statusWord_withSeq_running hb c n]
    refine (hostMove_wait_busy (s := (s.withSeq (.running c n)).withMoves ms) hr rfl).trans ?_
    exact congrArg (fun u : State => Host.Outcome.next (u.answer _)) stays

end Sys2Proof.Machine
end

section
/-! Diffs and timelines: the elements of a diff sequence, and what each diff does to a timeline (41_diff_timeline.md). -/

namespace Sys2Proof.Machine

open Sys2Proof Sys2Proof.Claims

/-! The diff sequence -/

theorem diffs_cons_cons (f g : Word) (fs : List Word) : diffs (f :: g :: fs) = (f ^^^ g) :: diffs (g :: fs) := rfl

theorem diffs_getElem? {fs : List Word} {i : Nat} {f g : Word} (hf : fs[i]? = some f) (hg : fs[i + 1]? = some g) :
    (diffs fs)[i]? = some (f ^^^ g) := by
  induction fs generalizing i with
  | nil => cases hf
  | cons a fs ih =>
    cases fs with
    | nil => cases hg
    | cons b fs =>
      rw [diffs_cons_cons]
      cases i with
      | zero =>
        cases hf
        cases hg
        rfl
      | succ i => exact ih hf hg

/-- Settles O33: each two neighbours of the frame sequence give one diff. -/
theorem diffSequenceIsPairwiseXor : Obligations.DiffSequenceIsPairwiseXor :=
  fun fs => ⟨diffs_length fs, fun _ _ _ => diffs_getElem?⟩

/-! What one diff does to a timeline -/

section

variable {p : Pixel} {d : Word}

theorem timelineFrom_cons_flip (h : d.getLsbD p.val = true) (ds : List Word) (n : Nat) :
    timelineFrom p (d :: ds) n = n :: timelineFrom p ds 1 := if_pos h

theorem timelineFrom_cons_stay (h : d.getLsbD p.val = false) (ds : List Word) (n : Nat) :
    timelineFrom p (d :: ds) n = timelineFrom p ds (n + 1) := if_neg (Bool.eq_false_iff.1 h)

end

/-! The loop of the specification -/

/-- The body of the loop of 41_diff_timeline.md R123. -/
def timelineLoopStep (p : Pixel) (t : List Nat) (d : Word) : List Nat :=
  if d.getLsbD p.val = false then t.modify (t.length - 1) (· + 1) else t ++ [1]

theorem timelineLoop_eq_foldl (ds : List Word) (p : Pixel) : timelineLoop ds p = ds.foldl (timelineLoopStep p) [0] := rfl

theorem timelineLoopStep_flip {p : Pixel} {d : Word} (h : d.getLsbD p.val = true) (t : List Nat) :
    timelineLoopStep p t d = t ++ [1] := if_neg (Bool.ne_false_iff.2 h)

theorem timelineLoopStep_stay {p : Pixel} {d : Word} (h : d.getLsbD p.val = false) (t : List Nat) (n : Nat) :
    timelineLoopStep p (t ++ [n]) d = t ++ [n + 1] := by
  rw [timelineLoopStep, if_pos h, List.length_append]
  exact List.modifyTailIdx_add _ 0 t [n]

/-- The loop leaves the finished elements `t` alone; from the current count `n` on it makes what the recursion makes. -/
theorem foldl_timelineLoopStep (p : Pixel) (ds : List Word) (t : List Nat) (n : Nat) :
    ds.foldl (timelineLoopStep p) (t ++ [n]) = t ++ timelineFrom p ds n := by
  induction ds generalizing t n with
  | nil => rfl
  | cons d ds ih =>
    rw [List.foldl_cons]
    cases h : d.getLsbD p.val with
    | false => rw [timelineLoopStep_stay h, ih, timelineFrom_cons_stay h]
    | true => rw [timelineLoopStep_flip h, ih, timelineFrom_cons_flip h, List.append_assoc, List.singleton_append]

/-- Settles O34: the loop starts with no finished element and the count 0. -/
theorem timelineIsTheLoopOfTheSpec : Obligations.TimelineIsTheLoopOfTheSpec := by
  intro ds p
  rw [timelineLoop_eq_foldl]
  exact (foldl_timelineLoopStep p ds [] 0).symm

/-! The properties of a timeline -/

/-- Each diff adds 1 to the sum: it extends the current element or starts one at 1. -/
theorem timelineFrom_sum (p : Pixel) (ds : List Word) (n : Nat) : (timelineFrom p ds n).sum = n + ds.length := by
  induction ds generalizing n with
  | nil => rfl
  | cons d ds ih =>
    rw [List.length_cons]
    cases h : d.getLsbD p.val with
    | false =>
      rw [timelineFrom_cons_stay h, ih]
      omega
    | true =>
      rw [timelineFrom_cons_flip h, List.sum_cons, ih]
      omega

/-- The current element is extended up to the first flip. -/
theorem timelineFrom_getElem?_zero (p : Pixel) (ds : List Word) (n : Nat) :
    (timelineFrom p ds n)[0]? = some (n + (ds.takeWhile fun d => !d.getLsbD p.val).length) := by
  induction ds generalizing n with
  | nil => rfl
  | cons d ds ih =>
    cases h : d.getLsbD p.val with
    | false =>
      rw [timelineFrom_cons_stay h, ih, List.takeWhile_cons_of_pos (by rw [h]; decide), List.length_cons]
      exact congrArg some (by omega)
    | true =>
      rw [timelineFrom_cons_flip h, List.takeWhile_cons_of_neg (by rw [h]; decide)]
      rfl

/-- Counts that start at 1 or more stay so. -/
theorem one_le_of_mem_timelineFrom {p : Pixel} {ds : List Word} {n v : Nat} (hn : 1 ≤ n) (hv : v ∈ timelineFrom p ds n) :
    1 ≤ v := by
  induction ds generalizing n with
  | nil => exact hn.trans_eq (List.mem_singleton.1 hv).symm
  | cons d ds ih =>
    cases h : d.getLsbD p.val with
    | false =>
      rw [timelineFrom_cons_stay h] at hv
      exact ih (Nat.le_add_left 1 n) hv
    | true =>
      rw [timelineFrom_cons_flip h] at hv
      obtain rfl | hv := List.mem_cons.1 hv
      · exact hn
      · exact ih le_rfl hv

/-- Every element but the first starts at 1, whatever the first started at. -/
theorem one_le_of_mem_timelineFrom_tail {p : Pixel} {ds : List Word} {n v : Nat} (hv : v ∈ (timelineFrom p ds n).tail) :
    1 ≤ v := by
  induction ds generalizing n with
  | nil => cases hv
  | cons d ds ih =>
    cases h : d.getLsbD p.val with
    | false =>
      rw [timelineFrom_cons_stay h] at hv
      exact ih hv
    | true =>
      rw [timelineFrom_cons_flip h] at hv
      exact one_le_of_mem_timelineFrom le_rfl hv

/-- Settles O35: a timeline is the recursion from the count 0. -/
theorem timelineProperties : Obligations.TimelineProperties := by
  intro ds p
  refine ⟨?_, timelineFrom_length p ds 0, ?_, fun v => one_le_of_mem_timelineFrom_tail, fun v => le_of_mem_timeline⟩
  · rw [timeline, timelineFrom_sum, Nat.zero_add]
  · rw [timeline, timelineFrom_getElem?_zero, Nat.zero_add]

/-! Independence of the lanes -/

theorem timelineFrom_congr {p : Pixel} {ds ds' : List Word}
    (h : ds.map (fun d => d.getLsbD p.val) = ds'.map (fun d => d.getLsbD p.val)) (n : Nat) :
    timelineFrom p ds n = timelineFrom p ds' n := by
  induction ds generalizing ds' n with
  | nil => rw [List.map_eq_nil_iff.1 h.symm]
  | cons d ds ih =>
    cases ds' with
    | nil => cases h
    | cons d' ds' =>
      obtain ⟨hd, hds⟩ := List.cons.inj h
      cases hb : d.getLsbD p.val with
      | false => rw [timelineFrom_cons_stay hb, timelineFrom_cons_stay (hd.symm.trans hb), ih hds]
      | true => rw [timelineFrom_cons_flip hb, timelineFrom_cons_flip (hd.symm.trans hb), ih hds]

/-- Settles O36: the recursion reads a diff at the pixel's bit alone. -/
theorem pixelLanesAreIndependent : Obligations.PixelLanesAreIndependent :=
  fun _ _ _ h => timelineFrom_congr h 0

end Sys2Proof.Machine
end

section
/-! The variable-width code of a value: its escape words and its terminal word (42_vw_encoder.md R140, R144), and what decoding
makes of them (R141, R145). -/

namespace Sys2Proof.Machine

open Sys2Proof Sys2Proof.Claims

/-! The closed form of the code of one value -/

/-- The terminal word of a value: what the escape words leave of it (42_vw_encoder.md R144). -/
def terminalWord (b v : Nat) : Nat := v - escapes b v * (2 ^ b - 1)

/-- An escape word stands for at least 1. -/
theorem escape_pos {b : Nat} (hb : 2 ≤ b) : 0 < 2 ^ b - 1 := by
  have : 1 < 2 ^ b := Nat.one_lt_two_pow (by omega)
  omega

theorem escapes_of_pos {v : Nat} (b : Nat) (hv : 1 ≤ v) : escapes b v = (v - 1) / (2 ^ b - 1) := if_neg (by omega)

theorem escapes_of_lt {b v : Nat} (hv : v < 2 ^ b) : escapes b v = 0 := by
  obtain rfl | hpos := Nat.eq_zero_or_pos v
  · rfl
  · rw [escapes_of_pos b hpos, Nat.div_eq_of_lt (by omega)]

/-- A turn of the escape loop takes one escape word off. -/
theorem escapes_of_le {b v : Nat} (hb : 2 ≤ b) (hv : 2 ^ b ≤ v) : escapes b v = escapes b (v - (2 ^ b - 1)) + 1 := by
  have hpos := escape_pos hb
  rw [escapes_of_pos b (by omega), escapes_of_pos b (by omega), Nat.div_eq_sub_div hpos (by omega), Nat.sub_right_comm]

theorem terminalWord_of_lt {b v : Nat} (hv : v < 2 ^ b) : terminalWord b v = v := by
  rw [terminalWord, escapes_of_lt hv, Nat.zero_mul, Nat.sub_zero]

/-- A turn of the escape loop leaves the terminal word alone. -/
theorem terminalWord_of_le {b v : Nat} (hb : 2 ≤ b) (hv : 2 ^ b ≤ v) :
    terminalWord b v = terminalWord b (v - (2 ^ b - 1)) := by
  rw [terminalWord, terminalWord, escapes_of_le hb hv, Nat.add_mul, Nat.one_mul, Nat.sub_sub, Nat.add_comm]

theorem valueWords_eq {b : Nat} (hb : 2 ≤ b) (v : Nat) :
    valueWords b v v = List.replicate (escapes b v) 0 ++ [terminalWord b v] := by
  induction v using Nat.strongRecOn with
  | ind v ih =>
    rw [valueWords_step hb le_rfl]
    split
    · next hv =>
      have hpos := escape_pos hb
      rw [ih _ (by omega), escapes_of_le hb hv, terminalWord_of_le hb hv, List.replicate_succ, List.cons_append]
    · next hv =>
      rw [escapes_of_lt (by omega), terminalWord_of_lt (by omega)]
      rfl

theorem valueWords_length {b : Nat} (hb : 2 ≤ b) (v : Nat) : (valueWords b v v).length = 1 + escapes b v := by
  rw [valueWords_eq hb, List.length_append, List.length_replicate, List.length_singleton, Nat.add_comm]

/-- The escape words and the terminal word of a positive value are the quotient and, moved up by 1, the remainder of
`v - 1`. -/
theorem terminalWord_of_pos {v : Nat} (b : Nat) (hv : 1 ≤ v) : terminalWord b v = (v - 1) % (2 ^ b - 1) + 1 := by
  have := Nat.div_add_mod' (v - 1) (2 ^ b - 1)
  rw [terminalWord, escapes_of_pos b hv]
  omega

theorem terminalWord_range {b v : Nat} (hb : 2 ≤ b) (hv : 1 ≤ v) : 1 ≤ terminalWord b v ∧ terminalWord b v ≤ 2 ^ b - 1 := by
  have := Nat.mod_lt (v - 1) (escape_pos hb)
  rw [terminalWord_of_pos b hv]
  omega

/-- The value is what its words stand for. -/
theorem escapes_mul_add_terminalWord {v : Nat} (b : Nat) (hv : 1 ≤ v) :
    escapes b v * (2 ^ b - 1) + terminalWord b v = v := by
  have := Nat.div_add_mod' (v - 1) (2 ^ b - 1)
  rw [terminalWord_of_pos b hv, escapes_of_pos b hv]
  omega

theorem vwLen_eq {b : Nat} (hb : 2 ≤ b) (t : List Nat) : vwLen t b = b * (t.map fun v => 1 + escapes b v).sum := by
  rw [vwLen, vwWords, List.length_flatMap]
  simp only [valueWords_length hb]

/-- Settles O38: the code words of one value are those of the escape loop. -/
theorem valueCodeClosedForm : Obligations.ValueCodeClosedForm := by
  intro b hb _
  refine ⟨fun v => ⟨?_, terminalWord_range hb⟩, vwLen_eq hb⟩
  rw [vwWords, List.flatMap_singleton, valueWords_eq hb, terminalWord]

/-! Decoding -/

/-- A nonzero word ends the element. -/
theorem vwDecodeFrom_cons_of_pos {w : Nat} (b : Nat) (hw : 1 ≤ w) (ws : List Nat) (acc : Nat) :
    vwDecodeFrom b (w :: ws) acc = (acc + w) :: vwDecodeFrom b ws 0 := if_neg (by omega)

/-- Escape words add up. -/
theorem vwDecodeFrom_escapes (b e : Nat) (ws : List Nat) (acc : Nat) :
    vwDecodeFrom b (List.replicate e 0 ++ ws) acc = vwDecodeFrom b ws (acc + e * (2 ^ b - 1)) := by
  induction e generalizing acc with
  | zero => rw [Nat.zero_mul]; rfl
  | succ e ih =>
    rw [List.replicate_succ, List.cons_append, vwDecodeFrom, if_pos rfl, ih, Nat.add_mul, Nat.one_mul]
    exact congrArg _ (by omega)

theorem vwDecodeFrom_valueWords {b v : Nat} (hb : 2 ≤ b) (hv : 1 ≤ v) (ws : List Nat) :
    vwDecodeFrom b (valueWords b v v ++ ws) 0 = v :: vwDecodeFrom b ws 0 := by
  rw [valueWords_eq hb, List.append_assoc, List.singleton_append, vwDecodeFrom_escapes,
    vwDecodeFrom_cons_of_pos b (terminalWord_range hb hv).1, Nat.zero_add, escapes_mul_add_terminalWord b hv]

theorem vwDecode_vwWords {b : Nat} (hb : 2 ≤ b) {t : List Nat} (ht : ∀ v ∈ t, 1 ≤ v) : vwDecode b (vwWords t b) = t := by
  induction t with
  | nil => rfl
  | cons v t ih =>
    obtain ⟨hv, ht⟩ := List.forall_mem_cons.1 ht
    have htail : vwDecodeFrom b (vwWords t b) 0 = t := ih ht
    rw [vwDecode, vwWords, List.flatMap_cons, vwDecodeFrom_valueWords hb hv, ← vwWords, htail]

/-- Decoding makes no element of 0, since an element ends with a nonzero word. -/
theorem one_le_of_mem_vwDecodeFrom {b : Nat} {ws : List Nat} {acc v : Nat} (h : v ∈ vwDecodeFrom b ws acc) : 1 ≤ v := by
  induction ws generalizing acc with
  | nil => cases h
  | cons w ws ih =>
    rw [vwDecodeFrom] at h
    split at h
    · exact ih h
    · obtain rfl | h := List.mem_cons.1 h
      · omega
      · exact ih h

/-- Settles O39: a list without a 0 is decoded value by value, and no decoded list holds a 0. -/
theorem codeRoundTripsExactlyWithoutZeros : Obligations.CodeRoundTripsExactlyWithoutZeros := by
  intro b hb _ t
  refine ⟨fun h v hv => ?_, vwDecode_vwWords hb⟩
  rw [← h] at hv
  exact one_le_of_mem_vwDecodeFrom hv

/-! The encoded string -/

/-- Prepending each word in turn puts the last word leftmost. -/
theorem vwString_eq (t : List Nat) (b : Nat) : vwString t b = ((vwWords t b).map (bitString b)).reverse.flatten :=
  List.foldl_flip_append_eq_append.trans (List.append_nil _)

theorem length_reverse_flatten_bitStrings (b : Nat) (ws : List Nat) :
    (ws.map (bitString b)).reverse.flatten.length = b * ws.length := by
  induction ws with
  | nil => rfl
  | cons w ws ih =>
    simp only [List.map_cons, List.reverse_cons, List.flatten_concat, List.length_append, bitString_length, ih,
      List.length_cons, Nat.mul_add, Nat.mul_one]

/-- Words that fit b bits, the last leftmost, read as the number they are packed into. -/
theorem stringValue_bitStrings {b : Nat} {ws : List Nat} (h : ∀ w ∈ ws, w < 2 ^ b) :
    stringValue (ws.map (bitString b)).reverse.flatten = packWords b ws := by
  induction ws with
  | nil => rfl
  | cons w ws ih =>
    obtain ⟨hw, hws⟩ := List.forall_mem_cons.1 h
    rw [List.map_cons, List.reverse_cons, List.flatten_concat, stringValue_append, bitString_length, ih hws,
      stringValue_bitString, Nat.mod_eq_of_lt hw, packWords_cons, Nat.add_comm]

/-- Settles O40: every code word fits b bits, so that the string's value is the packed words. -/
theorem stringReadAsNumber : Obligations.StringReadAsNumber := by
  intro b hb _ t
  have hlt : ∀ w ∈ vwWords t b, w < 2 ^ b := fun w => vwWords_lt hb
  have hval : stringValue (vwString t b) = packWords b (vwWords t b) := by
    rw [vwString_eq, stringValue_bitStrings hlt]
  refine ⟨?_, hval, fun k w hk => ?_⟩
  · rw [vwString_eq, length_reverse_flatten_bitStrings, vwLen]
  · rw [hval, packWords_digit hlt hk]

end Sys2Proof.Machine
end

section
/-! Word-size selection and the SELECT command (42_vw_encoder.md R146 to R148, 44_spiral_rle.md R194). -/

namespace Sys2Proof.Machine

open Sys2Proof Sys2Proof.Config Sys2Proof.Claims

/-- Settles O41: both selections are the loop of `selectBy`, each over its range. -/
theorem selectionIsLargestOfMinimalLength : Obligations.SelectionIsLargestOfMinimalLength :=
  ⟨fun t => selectBy_spec (vwLen t) (by decide), fun p m => selectBy_spec (rleLen p m) (by decide)⟩

/-- PIXLEN of a timeline: the lengths, and 0 below the range of word sizes (42_vw_encoder.md R148). -/
theorem pixLenOf_eq (t : List Nat) (b : Fin 16) : (pixLenOf t)[b] = if 2 ≤ b.val then BitVec.ofNat 32 (vwLen t b.val) else 0 := by
  split
  · next hb => exact pixLenOf_getElem t hb b.isLt
  · next hb => exact pixLenOf_low t (by omega)

/-- The writes of the per-pixel arrays, for the frames in memory. -/
theorem State.writePixels_pixelsHold (s : State) : PixelsHold (s.writePixels s.diffList) s := by
  intro p
  have hres : (s.writePixels s.diffList).pixres[p] = pixResOf (s.tl p) := by simp [State.tl]
  have hlen : (s.writePixels s.diffList).pixlen[p] = pixLenOf (s.tl p) := by simp [State.tl]
  refine ⟨hres, fun b => ?_⟩
  rw [hlen]
  exact pixLenOf_eq (s.tl p) b

/-- With NFRAMES = 0 or 1 every timeline is `[0]` (42_vw_encoder.md R147). -/
theorem State.tl_of_short {s : State} (h : s.nframes.toNat ≤ 1) (p : Pixel) : s.tl p = [0] := by
  rw [State.tl, State.diffList_of_short (by omega), timeline_nil]

/-- Settles O23: SELECT on a ready input writes the per-pixel arrays and completes. -/
theorem selectCompletes : Obligations.SelectCompletes := by
  intro s h
  have hpix : PixelsHold (s.writePixels s.diffList).complete s := s.writePixels_pixelsHold
  refine ⟨_, exec_select_ready h, ⟨rfl, rfl, rfl, rfl, rfl, rfl⟩, hpix, fun hshort p => ?_, rfl, rfl, rfl⟩
  rw [(hpix p).1, State.tl_of_short hshort p]
  decide

end Sys2Proof.Machine
end

section
/-! Blocks, assembly and output words (43_serializer.md R161 to R166, R170). -/

namespace Sys2Proof.Machine

open Sys2Proof Sys2Proof.Config Sys2Proof.Claims

/-! A block -/

theorem withSentinel_eq {ws : List Nat} (h : ws ≠ []) : withSentinel ws = ws.dropLast ++ [0] := by
  obtain rfl | ⟨xs, x, rfl⟩ := List.eq_nil_or_concat' ws
  · exact absurd rfl h
  · simp [withSentinel]

theorem withSentinel_length (ws : List Nat) : (withSentinel ws).length = ws.length := List.length_set

/-- Every word but the last stays. -/
theorem withSentinel_getElem? {ws : List Nat} {k : Nat} (h : k + 1 < ws.length) : (withSentinel ws)[k]? = ws[k]? :=
  List.getElem?_set_ne (by omega)

theorem withSentinel_lt {b : Nat} {ws : List Nat} (h : ∀ w ∈ ws, w < 2 ^ b) : ∀ w ∈ withSentinel ws, w < 2 ^ b := by
  intro w hw
  obtain hw | rfl := List.mem_or_eq_of_mem_set hw
  · exact h w hw
  · exact Nat.two_pow_pos b

theorem packWords_concat_zero (b : Nat) (ws : List Nat) : packWords b (ws ++ [0]) = packWords b ws := by
  induction ws with
  | nil => exact (packWords_cons b 0 []).trans ((Nat.zero_add _).trans (Nat.zero_mul _))
  | cons w ws ih => rw [List.cons_append, packWords_cons, packWords_cons, ih]

/-- The sentinel word leaves the top b bits of the packed words zero. -/
theorem packWords_withSentinel_lt {b : Nat} {ws : List Nat} (h : ∀ w ∈ ws, w < 2 ^ b) (hne : ws ≠ []) :
    packWords b (withSentinel ws) < 2 ^ (b * (ws.length - 1)) := by
  rw [withSentinel_eq hne, packWords_concat_zero, ← List.length_dropLast]
  exact packWords_lt fun w hw => h w (List.dropLast_subset ws hw)

theorem select_length (t : List Nat) : (select t).2 = vwLen t (select t).1 := by
  obtain ⟨-, -, hlen, -⟩ := selectionIsLargestOfMinimalLength.1 t
  exact hlen

theorem two_le_select (t : List Nat) : 2 ≤ (select t).1 := (selectionIsLargestOfMinimalLength.1 t).1

/-- The code words of the selected size fit it. -/
theorem selectedWords_lt (t : List Nat) : ∀ w ∈ vwWords t (select t).1, w < 2 ^ (select t).1 :=
  fun _ => vwWords_lt (two_le_select t)

theorem block_length (t : List Nat) : (block t).2 = (select t).2 + 3 := by
  show _ * (withSentinel _).length + 3 = _
  rw [withSentinel_length, select_length, vwLen]

/-- A timeline is never encoded without a word. -/
theorem select_le_length {t : List Nat} (ht : t ≠ []) : (select t).1 ≤ (select t).2 := by
  rw [select_length, vwLen]
  exact Nat.le_mul_of_pos_right _ (List.length_pos_iff.2 (vwWords_ne_nil _ ht))

section

variable {t : List Nat}

/-- A block in range is its field and, above it, its words. -/
theorem block_value (hhi : (select t).1 ≤ 11) :
    (block t).1 = ((select t).1 - 4) + packWords (select t).1 (withSentinel (vwWords t (select t).1)) * 8 :=
  blockOf_fst (Nat.lt_of_le_of_lt (Nat.sub_le_sub_right hhi 4) (by decide)) _

theorem block_field (hhi : (select t).1 ≤ 11) : (block t).1 % 8 = (select t).1 - 4 := by
  rw [block_value hhi]
  omega

/-- The b bits of a block that are read last are zero. -/
theorem block_lt_sentinel (ht : t ≠ []) (hhi : (select t).1 ≤ 11) : (block t).1 < 2 ^ ((block t).2 - (select t).1) := by
  have hpack := packWords_withSentinel_lt (selectedWords_lt t) (vwWords_ne_nil (select t).1 ht)
  have hexp : (block t).2 - (select t).1 = (select t).1 * ((vwWords t (select t).1).length - 1) + 3 := by
    have := select_le_length ht
    rw [block_length, Nat.mul_sub_one, ← vwLen, ← select_length]
    omega
  rw [block_value hhi, hexp, Nat.pow_add]
  omega

theorem block_lt (ht : t ≠ []) (hhi : (select t).1 ≤ 11) : (block t).1 < 2 ^ (block t).2 :=
  (block_lt_sentinel ht hhi).trans_le (Nat.pow_le_pow_right Nat.two_pos (Nat.sub_le _ _))

/-- Every word of a block but the last is the code word. -/
theorem block_word (hhi : (select t).1 ≤ 11) {k w : Nat} (hk : (vwWords t (select t).1)[k]? = some w)
    (hlast : k + 1 < (vwWords t (select t).1).length) :
    (block t).1 / 2 ^ (3 + (select t).1 * k) % 2 ^ (select t).1 = w := by
  have hdrop : (block t).1 / 2 ^ 3 = packWords (select t).1 (withSentinel (vwWords t (select t).1)) := by
    rw [block_value hhi]
    omega
  rw [Nat.pow_add, ← Nat.div_div_eq_div_mul, hdrop]
  exact packWords_digit (withSentinel_lt (selectedWords_lt t)) ((withSentinel_getElem? hlast).trans hk)

end

/-- Settles O42: a block is the field and the packed words, the last of which is 0. -/
theorem blockHoldsFieldWordsAndSentinel : Obligations.BlockHoldsFieldWordsAndSentinel :=
  fun t ht _ hhi => ⟨block_length t, block_field hhi, fun _ _ => block_word hhi, block_lt_sentinel ht hhi⟩

/-! Blocks put above each other -/

/-- The number of a list of (value, length) blocks, the first of them in the low bits. -/
def stackBlocks : List (Nat × Nat) → Nat
  | [] => 0
  | blk :: blks => blk.1 + stackBlocks blks * 2 ^ blk.2

/-- The length of a list of blocks. -/
def blocksLength (blks : List (Nat × Nat)) : Nat := (blks.map Prod.snd).sum

/-- A turn of the loop of `assemble`: a block goes above the bits so far. -/
def prependBlock (acc blk : Nat × Nat) : Nat × Nat := (acc.1 ||| (blk.1 <<< acc.2), acc.2 + blk.2)

/-- Every block's value fits its length. -/
def BlocksFit (blks : List (Nat × Nat)) : Prop := ∀ blk ∈ blks, blk.1 < 2 ^ blk.2

theorem blocksLength_cons (blk : Nat × Nat) (blks : List (Nat × Nat)) :
    blocksLength (blk :: blks) = blk.2 + blocksLength blks := List.sum_cons

theorem foldl_prependBlock_snd (blks : List (Nat × Nat)) (acc : Nat × Nat) :
    (blks.foldl prependBlock acc).2 = acc.2 + blocksLength blks := by
  induction blks generalizing acc with
  | nil => rfl
  | cons blk blks ih => rw [List.foldl_cons, ih, blocksLength_cons, prependBlock, Nat.add_assoc]

/-- A block put above bits that fit is an addition. -/
theorem prependBlock_fst {acc : Nat × Nat} (h : acc.1 < 2 ^ acc.2) (blk : Nat × Nat) :
    (prependBlock acc blk).1 = acc.1 + blk.1 * 2 ^ acc.2 := by
  rw [prependBlock, Nat.or_comm, ← Nat.shiftLeft_add_eq_or_of_lt h, Nat.shiftLeft_eq, Nat.add_comm]

/-- A number below 2^m with one below 2^n above it is below 2^(m + n). -/
theorem add_mul_two_pow_lt {x y m n : Nat} (hx : x < 2 ^ m) (hy : y < 2 ^ n) : x + y * 2 ^ m < 2 ^ (m + n) := by
  have : (y + 1) * 2 ^ m ≤ 2 ^ n * 2 ^ m := Nat.mul_le_mul_right _ hy
  rw [Nat.add_one_mul] at this
  rw [Nat.pow_add, Nat.mul_comm (2 ^ m)]
  omega

/-- The loop over blocks that fit stacks them above the bits so far. -/
theorem foldl_prependBlock_fst {blks : List (Nat × Nat)} (h : BlocksFit blks) {acc : Nat × Nat} (hacc : acc.1 < 2 ^ acc.2) :
    (blks.foldl prependBlock acc).1 = acc.1 + stackBlocks blks * 2 ^ acc.2 := by
  induction blks generalizing acc with
  | nil => simp [stackBlocks]
  | cons blk blks ih =>
    obtain ⟨hblk, hblks⟩ := List.forall_mem_cons.1 h
    have hnext : (prependBlock acc blk).1 < 2 ^ (prependBlock acc blk).2 := by
      rw [prependBlock_fst hacc]
      exact add_mul_two_pow_lt hacc hblk
    rw [List.foldl_cons, ih hblks hnext, prependBlock_fst hacc, stackBlocks, prependBlock]
    ring

theorem stackBlocks_lt {blks : List (Nat × Nat)} (h : BlocksFit blks) : stackBlocks blks < 2 ^ blocksLength blks := by
  induction blks with
  | nil => exact Nat.one_pos
  | cons blk blks ih =>
    obtain ⟨hblk, hblks⟩ := List.forall_mem_cons.1 h
    rw [blocksLength_cons]
    exact add_mul_two_pow_lt hblk (ih hblks)

/-- A block stands at the length of the blocks before it. -/
theorem stackBlocks_append_cons {pre : List (Nat × Nat)} {blk : Nat × Nat} (post : List (Nat × Nat)) (h : BlocksFit pre)
    (hblk : blk.1 < 2 ^ blk.2) :
    stackBlocks (pre ++ blk :: post) / 2 ^ blocksLength pre % 2 ^ blk.2 = blk.1 := by
  induction pre with
  | nil =>
    show (blk.1 + stackBlocks post * 2 ^ blk.2) / 2 ^ 0 % 2 ^ blk.2 = blk.1
    rw [Nat.pow_zero, Nat.div_one, Nat.add_mul_mod_self_right, Nat.mod_eq_of_lt hblk]
  | cons x pre ih =>
    obtain ⟨hx, hpre⟩ := List.forall_mem_cons.1 h
    rw [List.cons_append, stackBlocks, blocksLength_cons, Nat.pow_add, ← Nat.div_div_eq_div_mul,
      Nat.add_mul_div_right _ _ (Nat.two_pow_pos _), Nat.div_eq_of_lt hx, Nat.zero_add, ih hpre]

/-! The assembly -/

/-- The blocks of some pixels. -/
def blocksOf (ds : List Word) (ps : List Pixel) : List (Nat × Nat) := ps.map fun p => block (timeline ds p)

theorem assemble_eq (ds : List Word) : assemble ds = (blocksOf ds pixelsDown).foldl prependBlock (0, 0) := by
  rw [blocksOf, List.foldl_map]
  rfl

/-- Each pixel stands in the processing order between the pixels above and those below it (43_serializer.md R160). -/
theorem pixelsDown_split (p : Pixel) :
    ∃ pre post, pixelsDown = pre ++ p :: post ∧ (∀ q ∈ pre, p < q) ∧ ∀ q ∈ post, q < p := by
  have hp : p ∈ pixelsDown := List.mem_reverse.2 (List.mem_finRange p)
  obtain ⟨pre, post, e⟩ := List.append_of_mem hp
  have hdown : pixelsDown.Pairwise (· > ·) := List.pairwise_reverse.2 (List.pairwise_lt_finRange 64)
  rw [e, List.pairwise_append, List.pairwise_cons] at hdown
  obtain ⟨-, ⟨hpost, -⟩, hpre⟩ := hdown
  exact ⟨pre, post, e, fun q hq => hpre q hq p List.mem_cons_self, hpost⟩

/-- The offset of a block is the length of the blocks before it in the processing order. -/
theorem blockOffset_eq {ds : List Word} {p : Pixel} {pre post : List Pixel} (e : pixelsDown = pre ++ p :: post)
    (hpre : ∀ q ∈ pre, p < q) (hpost : ∀ q ∈ post, q < p) : blockOffset ds p = blocksLength (blocksOf ds pre) := by
  have above : pixelsDown.filter (fun q => p < q) = pre := by
    have hnone : post.filter (fun q => p < q) = [] :=
      List.filter_eq_nil_iff.2 fun q hq => by simpa using (hpost q hq).le
    rw [e, List.filter_append, List.filter_cons_of_neg (by simp), hnone, List.append_nil]
    exact List.filter_eq_self.2 fun q hq => decide_eq_true (hpre q hq)
  rw [blocksLength, blocksOf, ← above, pixelsDown, List.filter_reverse, List.map_map, List.map_reverse, List.sum_reverse]
  rfl

/-- The length of the assembly is the sum of the lengths of the blocks (43_serializer.md R165). -/
theorem assemble_snd (ds : List Word) :
    (assemble ds).2 = ((List.finRange 64).map fun p => (select (timeline ds p)).2 + 3).sum := by
  have hlen : (fun p => (select (timeline ds p)).2 + 3) = fun p => (block (timeline ds p)).2 :=
    funext fun p => (block_length _).symm
  rw [assemble_eq, foldl_prependBlock_snd, Nat.zero_add, blocksLength, blocksOf, pixelsDown, List.map_map, List.map_reverse,
    List.sum_reverse, hlen]
  rfl

section

variable {ds : List Word}

theorem blocksFit_blocksOf (h : ∀ p : Pixel, (select (timeline ds p)).1 ≤ 11) (ps : List Pixel) :
    BlocksFit (blocksOf ds ps) := by
  intro blk hblk
  obtain ⟨p, -, rfl⟩ := List.mem_map.1 hblk
  exact block_lt (timeline_ne_nil ds p) (h p)

/-- The assembly stacks the blocks in the processing order. -/
theorem assemble_fst (h : ∀ p : Pixel, (select (timeline ds p)).1 ≤ 11) :
    (assemble ds).1 = stackBlocks (blocksOf ds pixelsDown) := by
  rw [assemble_eq, foldl_prependBlock_fst (blocksFit_blocksOf h _) Nat.one_pos]
  show 0 + _ * 1 = _
  rw [Nat.mul_one, Nat.zero_add]

theorem assemble_lt (h : ∀ p : Pixel, (select (timeline ds p)).1 ≤ 11) : (assemble ds).1 < 2 ^ (assemble ds).2 := by
  rw [assemble_fst h, assemble_eq, foldl_prependBlock_snd, Nat.zero_add]
  exact stackBlocks_lt (blocksFit_blocksOf h _)

/-- Each pixel's block stands at its offset (43_serializer.md R164). -/
theorem assemble_block (h : ∀ p : Pixel, (select (timeline ds p)).1 ≤ 11) (p : Pixel) :
    (assemble ds).1 / 2 ^ blockOffset ds p % 2 ^ (block (timeline ds p)).2 = (block (timeline ds p)).1 := by
  obtain ⟨pre, post, e, hpre, hpost⟩ := pixelsDown_split p
  rw [assemble_fst h, blockOffset_eq e hpre hpost, e, blocksOf, List.map_append, List.map_cons]
  exact stackBlocks_append_cons _ (blocksFit_blocksOf h pre) (block_lt (timeline_ne_nil ds p) (h p))

end

/-- A word of 4 bits or more and the field make a block of at least 7 bits. -/
theorem le_assemble_snd {ds : List Word} (h : ∀ p : Pixel, 4 ≤ (select (timeline ds p)).1) : 448 ≤ (assemble ds).2 := by
  rw [assemble_snd]
  have hlen : ∀ x ∈ (List.finRange 64).map fun p => (select (timeline ds p)).2 + 3, 7 ≤ x := by
    rw [List.forall_mem_map]
    intro p _
    have := select_le_length (timeline_ne_nil ds p)
    have := h p
    omega
  simpa using List.card_nsmul_le_sum _ 7 hlen

/-- Settles O43: the loop stacks the blocks, each of which fits its length. -/
theorem assemblyHoldsEveryBlock : Obligations.AssemblyHoldsEveryBlock := by
  intro ds h
  have hhi : ∀ p : Pixel, (select (timeline ds p)).1 ≤ 11 := fun p => (h p).2
  exact ⟨assemble_snd ds, le_assemble_snd fun p => (h p).1, assemble_lt hhi, assemble_block hhi⟩

/-! The bound of the length -/

theorem escapes_four_le (v : Nat) : escapes 4 v ≤ v / 15 := by
  obtain rfl | hv := Nat.eq_zero_or_pos v
  · exact Nat.le_refl 0
  · rw [escapes_of_pos 4 hv]
    exact Nat.div_le_div_right (Nat.sub_le v 1)

/-- At word size 4 a list has a word for each element and an escape word for each 15 at most. -/
theorem vwLen_four_le (t : List Nat) : vwLen t 4 ≤ 4 * (t.length + t.sum / 15) := by
  rw [vwLen_eq (by decide)]
  refine Nat.mul_le_mul_left 4 ?_
  induction t with
  | nil => exact Nat.le_refl 0
  | cons v t ih =>
    have := escapes_four_le v
    simp only [List.map_cons, List.sum_cons, List.length_cons]
    omega

/-- The selected length is no longer than that of word size 4 (43_serializer.md R170). -/
theorem select_timeline_le (ds : List Word) (p : Pixel) :
    (select (timeline ds p)).2 ≤ 4 * (ds.length + 1 + ds.length / 15) := by
  obtain ⟨-, -, -, hmin⟩ := selectionIsLargestOfMinimalLength.1 (timeline ds p)
  obtain ⟨hsum, -⟩ := timelineProperties ds p
  have hfour := vwLen_four_le (timeline ds p)
  have hlen := timeline_length_le ds p
  have := (hmin 4 (by decide) (by decide)).1
  rw [hsum] at hfour
  omega

theorem assemble_snd_le (ds : List Word) : (assemble ds).2 ≤ 64 * (3 + 4 * (ds.length + 1 + ds.length / 15)) := by
  rw [assemble_snd]
  have hlen : ∀ x ∈ (List.finRange 64).map fun p => (select (timeline ds p)).2 + 3,
      x ≤ 3 + 4 * (ds.length + 1 + ds.length / 15) := by
    rw [List.forall_mem_map]
    intro p _
    have := select_timeline_le ds p
    omega
  simpa using List.sum_le_card_nsmul _ _ hlen

/-- Settles O46: 64 blocks, each of the field and at most the length of its timeline at word size 4. -/
theorem assembledLengthIsBounded : Obligations.AssembledLengthIsBounded := by
  intro ds
  have h := assemble_snd_le ds
  exact ⟨h, fun hn => by omega, fun hn => by omega⟩

/-! The output words -/

theorem chunks_eq (t : Nat) : chunks t = (t + 63) / 64 := rfl

theorem le_chunks (t : Nat) : t ≤ 64 * chunks t := by
  rw [chunks_eq]
  omega

/-- The output words stored from 0 up: the chunks, and the zero word after them. -/
theorem read_writeFrom_outWords (m : Memory) (n t : Nat) {i : Nat} (hi : i ≤ chunks t) :
    (m.writeFrom 0 (outWords n t)).read i = some (if i < chunks t then BitVec.ofNat 64 (n >>> (64 * i)) else 0) := by
  rw [Memory.read_writeFrom, if_pos (by rw [outWords_length]; omega), Nat.sub_zero, outWords_getElem? n t i hi]

/-- The chunks in a memory spell the number. -/
theorem streamValue_outWords (m : Memory) {n t : Nat} (h : n < 2 ^ t) :
    streamValue (m.writeFrom 0 (outWords n t)) (chunks t) = n := by
  rw [streamValue_of_digits fun i hi => by rw [read_writeFrom_outWords m n t hi.le, if_pos hi]]
  exact Nat.mod_eq_of_lt (h.trans_le (Nat.pow_le_pow_right Nat.two_pos (le_chunks t)))

/-- Settles O44: the words are K chunks and the zero word, and K chunks hold t bits. -/
theorem outputWordsSpellTheNumber : Obligations.OutputWordsSpellTheNumber :=
  fun n t h => ⟨outWords_length n t, List.getLast?_concat, streamValue_outWords [] h⟩

end Sys2Proof.Machine
end

section
/-! The SERIALIZE command (43_serializer.md R167 to R171). -/

namespace Sys2Proof.Machine

open Sys2Proof Sys2Proof.Config Sys2Proof.Claims

/-! The outcomes of the command, each with its condition -/

theorem State.serializeDiffs_nil (s : State) : s.serializeDiffs [] = s.serializeEmpty.complete := rfl

section

variable {s : State} {ds : List Word}

theorem State.serializeDiffs_violation {p : Pixel} {b : Nat} (hd : ds ≠ []) (hb : boundsViolation ds = some (p, b)) :
    s.serializeDiffs ds = s.serializeBRange.fail .bRange (BitVec.ofNat 32 p.val) (BitVec.ofNat 4 b) := by
  rw [State.serializeDiffs, if_neg (mt List.length_eq_zero_iff.1 hd), hb]

theorem State.serializeDiffs_inRange (hd : ds ≠ []) (hb : boundsViolation ds = none) :
    s.serializeDiffs ds = s.serializeAssembled (assemble ds).1 (assemble ds).2 := by
  rw [State.serializeDiffs, if_neg (mt List.length_eq_zero_iff.1 hd), hb]

end

theorem State.diffList_ne_nil {s : State} (h : 2 ≤ s.nframes.toNat) : s.diffList ≠ [] := by
  rw [← List.length_pos_iff, State.diffList_length]
  omega

/-- The first pixel in processing order that is out of range is the highest of them. -/
theorem boundsViolation_eq_some {ds : List Word} {p : Pixel}
    (hp : (select (timeline ds p)).1 < 4 ∨ 11 < (select (timeline ds p)).1)
    (habove : ∀ q : Pixel, p < q → 4 ≤ (select (timeline ds q)).1 ∧ (select (timeline ds q)).1 ≤ 11) :
    boundsViolation ds = some (p, (select (timeline ds p)).1) := by
  obtain ⟨pre, post, e, hpre, -⟩ := pixelsDown_split p
  have hfind : pixelsDown.find? (fun p => outOfRange (select (timeline ds p)).1) = some p := by
    refine List.find?_eq_some_iff_append.2 ⟨(outOfRange_iff _).2 hp, pre, post, e, fun q hq => ?_⟩
    have := habove q (hpre q hq)
    rw [Bool.not_eq_true', Bool.eq_false_iff, ne_eq, outOfRange_iff]
    omega
  rw [boundsViolation, hfind, Option.map_some]

section

variable {s : State} (h : s.inputReady) (hn : 2 ≤ s.nframes.toNat)
include h hn

/-- SERIALIZE with a word size out of range (43_serializer.md R167). -/
theorem exec_serialize_violation {p : Pixel} {b : Nat} (hb : boundsViolation s.diffList = some (p, b)) :
    exec .serialize s =
      .next ((s.writePixels s.diffList).serializeBRange.fail .bRange (BitVec.ofNat 32 p.val) (BitVec.ofNat 4 b)) := by
  rw [exec_serialize_ready h, State.serializeDiffs_violation (State.diffList_ne_nil hn) hb]

/-- SERIALIZE with every word size in range and an output that does not fit OUT (43_serializer.md R170). -/
theorem exec_serialize_overflow (hr : AllInRange s) (ho : s.params.outMax < chunks (assemble s.diffList).2 + 1) :
    exec .serialize s = .next (((s.writePixels s.diffList).serializeOverflow (assemble s.diffList).2).fail .outOverflow
      (BitVec.ofNat 32 (chunks (assemble s.diffList).2 + 1)) 0) := by
  rw [exec_serialize_ready h, State.serializeDiffs_inRange (State.diffList_ne_nil hn) ((boundsViolation_eq_none _).2 hr),
    State.serializeAssembled, State.writePixels_params, if_pos ho]

/-- SERIALIZE with every word size in range and an output that fits OUT (43_serializer.md R168). -/
theorem exec_serialize_fits (hr : AllInRange s) (hfit : chunks (assemble s.diffList).2 + 1 ≤ s.params.outMax) :
    exec .serialize s =
      .next ((s.writePixels s.diffList).serializeOutput (assemble s.diffList).1 (assemble s.diffList).2).complete := by
  rw [exec_serialize_ready h, State.serializeDiffs_inRange (State.diffList_ne_nil hn) ((boundsViolation_eq_none _).2 hr),
    State.serializeAssembled, State.writePixels_params, if_neg (Nat.not_lt.2 hfit)]

end

/-- OUTCNT has room for the count of any output that fits OUT. -/
theorem State.serializeOutput_outcnt_toNat {s : State} (hp : s.params.wellFormed = true) (n : Nat) {t : Nat}
    (ht : chunks t + 1 ≤ s.params.outMax) : (s.serializeOutput n t).outcnt.toNat = chunks t + 1 := by
  obtain ⟨-, ⟨-, ho⟩, -⟩ := (Params.wellFormed_iff _).1 hp
  rw [State.serializeOutput_outcnt, BitVec.toNat_ofNat]
  omega

/-! The command -/

/-- Settles O25: the output that fits is stored from OUT[0] up. -/
theorem serializeCompletes : Obligations.SerializeCompletes := by
  intro s hp h hn hr hfit
  have hexec := exec_serialize_fits h hn hr hfit
  have hpix := s.writePixels_pixelsHold
  -- What follows holds of any N and T; as variables they are not evaluated.
  generalize (assemble s.diffList).1 = n, (assemble s.diffList).2 = t at hexec hfit ⊢
  have hout {i : Nat} (hi : i ≤ chunks t) := read_writeFrom_outWords s.out n t hi
  have hcnt := State.serializeOutput_outcnt_toNat (s := s.writePixels s.diffList) hp n hfit
  refine ⟨_, hexec, ⟨rfl, rfl, rfl, rfl, rfl, rfl⟩, hpix, rfl, hcnt, fun i hi => ?_, ?_, fun i hi => ?_, rfl, rfl⟩
  · exact (hout (Nat.le_of_lt hi)).trans (congrArg some (if_pos hi))
  · exact (hout le_rfl).trans (congrArg some (if_neg (Nat.lt_irrefl _)))
  · refine (Memory.read_writeFrom ..).trans (if_neg ?_)
    rw [outWords_length, chunks_eq]
    omega

/-- Settles O26: with fewer than two frames the diff sequence is empty, and the zero word alone is stored. -/
theorem serializeOfNoDiffsCompletes : Obligations.SerializeOfNoDiffsCompletes := by
  intro s h hn
  have hpix := s.writePixels_pixelsHold
  rw [exec_serialize_ready h, State.diffList_of_short hn, State.serializeDiffs_nil]
  rw [State.diffList_of_short hn] at hpix
  exact ⟨_, rfl, ⟨rfl, rfl, rfl, rfl, rfl, rfl⟩, hpix, rfl, rfl, Memory.read_write_same .., fun i hi =>
    Memory.read_write_ne _ _ hi, rfl, rfl⟩

/-- Settles O27: the search takes the pixels from 63 down. -/
theorem serializeReportsHighestViolation : Obligations.SerializeReportsHighestViolation := by
  intro s p h hn hlow habove
  have hb := boundsViolation_eq_some hlow habove
  have hpix := s.writePixels_pixelsHold
  exact ⟨_, exec_serialize_violation h hn hb, ⟨rfl, rfl, rfl, rfl, rfl, rfl⟩, hpix, rfl, rfl, rfl, rfl⟩

/-- Settles O28: the capacity check comes after the bounds check and before any output. -/
theorem serializeOverflowFails : Obligations.SerializeOverflowFails := by
  intro s h hn hr hover
  have hexec := exec_serialize_overflow h hn hr hover
  have hpix := s.writePixels_pixelsHold
  -- What follows holds of any T; as a variable it is not evaluated.
  generalize (assemble s.diffList).2 = t at hexec ⊢
  exact ⟨_, hexec, ⟨rfl, rfl, rfl, rfl, rfl, rfl⟩, hpix, rfl, rfl, rfl, rfl⟩

/-! The stream a successful SERIALIZE leaves -/

/-- A SERIALIZE of two frames or more that ends without an error had every word size in range and room for its output. -/
theorem exec_serialize_succeeds {s t : State} (hn : 2 ≤ s.nframes.toNat) (h : exec .serialize s = .next t)
    (herr : t.status.err = false) :
    AllInRange s ∧ chunks (assemble s.diffList).2 + 1 ≤ s.params.outMax ∧
      t = ((s.writePixels s.diffList).serializeOutput (assemble s.diffList).1 (assemble s.diffList).2).complete := by
  rcases State.withFrames_next ((exec_serialize s).symm.trans h) with ⟨-, rfl⟩ | ⟨-, hk⟩
  · cases herr
  · rw [← State.diffList] at hk
    cases hk
    rcases (s.writePixels s.diffList).serializeDiffs_cases s.diffList with
      ⟨hnil, -⟩ | ⟨-, p, b, -, e⟩ | ⟨-, -, -, e⟩ | ⟨-, hb, hfit, e⟩
    · exact absurd hnil (State.diffList_ne_nil hn)
    · rw [e] at herr
      cases herr
    · rw [e] at herr
      cases herr
    · exact ⟨(boundsViolation_eq_none _).1 hb, hfit, e⟩

/-- The trailing zero word adds nothing to the number the output words spell. -/
theorem streamValue_outWords_all (m : Memory) {n t : Nat} (h : n < 2 ^ t) :
    streamValue (m.writeFrom 0 (outWords n t)) (chunks t + 1) = n := by
  rw [streamValue, streamValue_outWords m h, read_writeFrom_outWords m n t le_rfl, if_neg (Nat.lt_irrefl _)]
  simp

section

variable {ds : List Word} (h : ∀ p : Pixel, (select (timeline ds p)).1 ≤ 11) (p : Pixel)
include h

/-- The bits of the assembly at a pixel's offset begin with its field. -/
theorem assemble_field : (assemble ds).1 / 2 ^ blockOffset ds p % 8 = (select (timeline ds p)).1 - 4 := by
  have hdvd : 8 ∣ 2 ^ (block (timeline ds p)).2 := by
    rw [block_length, Nat.pow_add]
    exact Nat.dvd_mul_left ..
  rw [← block_field (h p), ← assemble_block h p, Nat.mod_mod_of_dvd _ hdvd]

/-- The b bits of a pixel's block that are read last are zero (43_serializer.md R163). -/
theorem assemble_sentinel :
    (assemble ds).1 / 2 ^ (blockOffset ds p + 3 + (select (timeline ds p)).2 - (select (timeline ds p)).1) %
      2 ^ (select (timeline ds p)).1 = 0 := by
  have hle := select_le_length (timeline_ne_nil ds p)
  have hlen := block_length (timeline ds p)
  have hsplit : (block (timeline ds p)).2 =
      ((block (timeline ds p)).2 - (select (timeline ds p)).1) + (select (timeline ds p)).1 := by omega
  have hexp : blockOffset ds p + 3 + (select (timeline ds p)).2 - (select (timeline ds p)).1 =
      blockOffset ds p + ((block (timeline ds p)).2 - (select (timeline ds p)).1) := by omega
  have hblock := assemble_block h p
  rw [hsplit, Nat.pow_add] at hblock
  rw [hexp, Nat.pow_add, ← Nat.div_div_eq_div_mul, ← Nat.mod_mul_right_div_self, hblock]
  exact Nat.div_eq_of_lt (block_lt_sentinel (timeline_ne_nil ds p) (h p))

end

/-- Settles O45: a success leaves the output words of the assembly in OUT, and they spell it. -/
theorem serializedStreamHasFieldsAndSentinels : Obligations.SerializedStreamHasFieldsAndSentinels := by
  intro s t hp hn hexec herr
  obtain ⟨hr, hfit, rfl⟩ := exec_serialize_succeeds hn hexec herr
  have hhi : ∀ p : Pixel, (select (timeline s.diffList p)).1 ≤ 11 := fun p => (hr p).2
  have hcnt := State.serializeOutput_outcnt_toNat (s := s.writePixels s.diffList) hp (assemble s.diffList).1 hfit
  rw [State.complete_outcnt, State.complete_out, hcnt, State.serializeOutput_out,
    streamValue_outWords_all _ (assemble_lt hhi)]
  refine ⟨?_, fun p => ⟨?_, assemble_sentinel hhi p⟩⟩
  · rw [Nat.add_sub_cancel, read_writeFrom_outWords _ _ _ le_rfl, if_neg (Nat.lt_irrefl _)]
  · have hlo : 4 ≤ (select (timeline s.diffList p)).1 := (hr p).1
    have hfield := assemble_field hhi p
    show _ % 8 + 4 = (select (timeline s.diffList p)).1
    omega

end Sys2Proof.Machine
end

section
/-! The spiral permutation (44_spiral_rle.md R190). -/

namespace Sys2Proof.Machine

open Sys2Proof Sys2Proof.Config

/-- A turn of the loop of `spiralPerm`: bit i of the mask goes to its traversal position. -/
def placeBit (p : Params) (m : Word) (s : List Bool) (i : Fin 64) : List Bool := s.set p.spiral[i].val (m.getLsbD i.val)

theorem spiralPerm_eq_foldl (p : Params) (m : Word) :
    spiralPerm p m = (List.finRange 64).foldl (placeBit p m) (List.replicate 64 false) := rfl

theorem placeBit_length (p : Params) (m : Word) (s : List Bool) (i : Fin 64) : (placeBit p m s i).length = s.length :=
  List.length_set

theorem foldl_placeBit_length (p : Params) (m : Word) (is : List (Fin 64)) (s : List Bool) :
    (is.foldl (placeBit p m) s).length = s.length := by
  induction is generalizing s with
  | nil => rfl
  | cons i is ih => rw [List.foldl_cons, ih, placeBit_length]

/-- The permuted sequence has 64 bits, whatever the table. -/
theorem spiralPerm_length (p : Params) (m : Word) : (spiralPerm p m).length = 64 := by
  rw [spiralPerm_eq_foldl, foldl_placeBit_length, List.length_replicate]

theorem placeBit_same (p : Params) (m : Word) {s : List Bool} {i : Fin 64} (hs : p.spiral[i].val < s.length) :
    (placeBit p m s i)[p.spiral[i].val]? = some (m.getLsbD i.val) := List.getElem?_set_self hs

theorem placeBit_ne (p : Params) (m : Word) (s : List Bool) {i : Fin 64} {k : Nat} (h : p.spiral[i].val ≠ k) :
    (placeBit p m s i)[k]? = s[k]? := List.getElem?_set_ne h

/-- A table in range sends no two bits to one position. -/
theorem spiral_injective {p : Params} (hp : p.wellFormed = true) {i j : Fin 64} (h : p.spiral[i].val = p.spiral[j].val) :
    i = j := by
  obtain ⟨-, -, hnodup⟩ := (Params.wellFormed_iff p).1 hp
  exact Fin.ext ((hnodup.getElem_inj_iff (hi := by simp) (hj := by simp)).1 (by simpa using Fin.ext h))

/-- The loop leaves bit i at its position, when it is still to be placed or stands there already. -/
theorem foldl_placeBit_getElem? {p : Params} (hp : p.wellFormed = true) (m : Word) (i : Fin 64) {is : List (Fin 64)}
    {s : List Bool} (hs : p.spiral[i].val < s.length)
    (hi : i ∈ is ∨ s[p.spiral[i].val]? = some (m.getLsbD i.val)) :
    (is.foldl (placeBit p m) s)[p.spiral[i].val]? = some (m.getLsbD i.val) := by
  induction is generalizing s with
  | nil => exact hi.resolve_left List.not_mem_nil
  | cons j is ih =>
    rw [List.foldl_cons]
    refine ih (by rwa [placeBit_length]) ?_
    by_cases hj : j = i
    · subst hj
      exact .inr (placeBit_same p m hs)
    · have hne : p.spiral[j].val ≠ p.spiral[i].val := fun h => hj (spiral_injective hp h)
      rw [placeBit_ne p m s hne]
      exact hi.imp_left fun h => (List.mem_cons.1 h).resolve_left (Ne.symm hj)

/-- Settles O47: the loop places every bit, and no later bit at its position. -/
theorem spiralPermutesTheMask : Obligations.SpiralPermutesTheMask := by
  refine fun p m hp => ⟨spiralPerm_length p m, fun i => ?_⟩
  rw [spiralPerm_eq_foldl]
  exact foldl_placeBit_getElem? hp m i (by simp) (.inl (List.mem_finRange i))

end Sys2Proof.Machine
end

section
/-! The run-length code: its words are the variable-width code words of the run lengths (44_spiral_rle.md R192, R193, R195). -/

namespace Sys2Proof.Machine

open Sys2Proof Sys2Proof.Config Sys2Proof.Claims

/-! One more unit of a value -/

/-- A value is taken apart into escape words and a terminal word in one way. -/
theorem escapes_terminalWord_of_eq {b v e w : Nat} (h : e * (2 ^ b - 1) + w = v) (hw : 1 ≤ w) (hw' : w ≤ 2 ^ b - 1) :
    escapes b v = e ∧ terminalWord b v = w := by
  have hv : 1 ≤ v := by omega
  have hdiv : (v - 1) / (2 ^ b - 1) = e ∧ (v - 1) % (2 ^ b - 1) = w - 1 :=
    (Nat.div_mod_unique (by omega)).2 ⟨by rw [Nat.mul_comm]; omega, by omega⟩
  rw [escapes_of_pos b hv, terminalWord_of_pos b hv]
  omega

section

variable {b v : Nat} (hb : 2 ≤ b) (hv : 1 ≤ v)
include hb hv

/-- A terminal word that can not grow becomes an escape word and a 1. -/
theorem escapes_terminalWord_succ_of_full (h : terminalWord b v + 1 = 2 ^ b) :
    escapes b (v + 1) = escapes b v + 1 ∧ terminalWord b (v + 1) = 1 := by
  have hsum := escapes_mul_add_terminalWord b hv
  have hpos := escape_pos hb
  refine escapes_terminalWord_of_eq ?_ le_rfl hpos
  rw [Nat.add_one_mul]
  omega

/-- Any other terminal word grows by 1. -/
theorem escapes_terminalWord_succ (h : terminalWord b v + 1 ≠ 2 ^ b) :
    escapes b (v + 1) = escapes b v ∧ terminalWord b (v + 1) = terminalWord b v + 1 := by
  have hsum := escapes_mul_add_terminalWord b hv
  have hpos := escape_pos hb
  obtain ⟨-, hle⟩ := terminalWord_range hb hv
  exact escapes_terminalWord_of_eq (by omega) (Nat.le_add_left 1 _) (by omega)

end

theorem escapes_one {b : Nat} (hb : 2 ≤ b) : escapes b 1 = 0 := escapes_of_lt (Nat.one_lt_two_pow (by omega))

theorem terminalWord_one {b : Nat} (hb : 2 ≤ b) : terminalWord b 1 = 1 := terminalWord_of_lt (Nat.one_lt_two_pow (by omega))

/-! The runs and the code words, bit by bit -/

theorem runsFrom_cons_same (c : Bool) (xs : List Bool) (n : Nat) : runsFrom (c :: xs) c n = runsFrom xs c (n + 1) :=
  if_pos rfl

theorem runsFrom_cons_flip {x c : Bool} (h : x ≠ c) (xs : List Bool) (n : Nat) :
    runsFrom (x :: xs) c n = n :: runsFrom xs x 1 := if_neg h

theorem rleFrom_cons_escape {b n : Nat} (h : n + 1 = 2 ^ b) (c : Bool) (xs : List Bool) :
    rleFrom b (c :: xs) c n = 0 :: rleFrom b xs c 1 := (if_pos rfl).trans (if_pos h)

theorem rleFrom_cons_same {b n : Nat} (h : n + 1 ≠ 2 ^ b) (c : Bool) (xs : List Bool) :
    rleFrom b (c :: xs) c n = rleFrom b xs c (n + 1) := (if_pos rfl).trans (if_neg h)

theorem rleFrom_cons_flip {x c : Bool} (h : x ≠ c) (b : Nat) (xs : List Bool) (n : Nat) :
    rleFrom b (x :: xs) c n = n :: rleFrom b xs x 1 := by
  rw [rleFrom, if_neg h, Bool.eq_not.2 h]

/-- The counter of a run of length r is the terminal word of r, and its escape words are out already: from there on the code
words are those of the runs. -/
theorem escapes_append_rleFrom {b : Nat} (hb : 2 ≤ b) (xs : List Bool) (c : Bool) {r : Nat} (hr : 1 ≤ r) :
    List.replicate (escapes b r) 0 ++ rleFrom b xs c (terminalWord b r) = vwWords (runsFrom xs c r) b := by
  induction xs generalizing c r with
  | nil => rw [runsFrom, vwWords, List.flatMap_singleton, valueWords_eq hb, rleFrom]
  | cons x xs ih =>
    by_cases hx : x = c
    · subst hx
      rw [runsFrom_cons_same, ← ih x (Nat.le_add_left 1 r)]
      by_cases hfull : terminalWord b r + 1 = 2 ^ b
      · obtain ⟨hesc, hterm⟩ := escapes_terminalWord_succ_of_full hb hr hfull
        rw [rleFrom_cons_escape hfull, hesc, hterm, List.replicate_succ', List.append_assoc, List.singleton_append]
      · obtain ⟨hesc, hterm⟩ := escapes_terminalWord_succ hb hr hfull
        rw [rleFrom_cons_same hfull, hesc, hterm]
    · have hrest := ih x (le_refl 1)
      rw [escapes_one hb, terminalWord_one hb, List.replicate_zero, List.nil_append] at hrest
      rw [rleFrom_cons_flip hx, runsFrom_cons_flip hx, hrest, vwWords, vwWords, List.flatMap_cons, valueWords_eq hb,
        List.append_assoc, List.singleton_append]

/-- The code words of a bit sequence are the variable-width code words of its run lengths. -/
theorem rleBits_eq {b : Nat} (hb : 2 ≤ b) (s : List Bool) : rleBits b s = vwWords (runs s) b := by
  cases s with
  | nil => rfl
  | cons c xs =>
    have h := escapes_append_rleFrom hb xs c (le_refl 1)
    rwa [escapes_one hb, terminalWord_one hb] at h

theorem rleLen_eq (p : Params) (m : Word) {b : Nat} (hb : 2 ≤ b) : rleLen p m b = vwLen (runs (spiralPerm p m)) b := by
  rw [rleLen, rleWords, rleBits_eq hb, vwLen]

/-! The run lengths -/

theorem runsFrom_sum (xs : List Bool) (c : Bool) (n : Nat) : (runsFrom xs c n).sum = n + xs.length := by
  induction xs generalizing c n with
  | nil => rfl
  | cons x xs ih =>
    rw [List.length_cons]
    by_cases hx : x = c
    · subst hx
      rw [runsFrom_cons_same, ih]
      omega
    · rw [runsFrom_cons_flip hx, List.sum_cons, ih]
      omega

/-- The runs of a bit sequence take up the whole of it. -/
theorem runs_sum (s : List Bool) : (runs s).sum = s.length := by
  cases s with
  | nil => rfl
  | cons c xs => rw [runs, runsFrom_sum, List.length_cons, Nat.add_comm]

theorem vwWords_length {b : Nat} (hb : 2 ≤ b) (t : List Nat) : (vwWords t b).length = (t.map fun v => 1 + escapes b v).sum :=
  Nat.eq_of_mul_eq_mul_left (by omega) (vwLen_eq hb t)

/-- Also the value 0 has the quotient of R144 as its number of escape words. -/
theorem escapes_eq (b v : Nat) : escapes b v = (v - 1) / (2 ^ b - 1) := by
  obtain rfl | hv := Nat.eq_zero_or_pos v
  · exact (Nat.zero_div _).symm
  · exact escapes_of_pos b hv

/-- Values that fit b bits have one code word each. -/
theorem vwWords_length_of_lt {b : Nat} (hb : 2 ≤ b) {t : List Nat} (h : ∀ v ∈ t, v < 2 ^ b) :
    (vwWords t b).length = t.length := by
  have hone : ∀ v ∈ t, 1 + escapes b v = 1 := fun v hv => by rw [escapes_of_lt (h v hv)]
  rw [vwWords_length hb, List.map_congr_left hone]
  simp

/-- Settles O48: the code words are those of the runs, and no run is longer than the 64 bits. -/
theorem runLengthClosedForm : Obligations.RunLengthClosedForm := by
  intro p m _
  have hsum : (runs (spiralPerm p m)).sum = 64 := (runs_sum _).trans (spiralPerm_length p m)
  refine ⟨hsum, fun b hb _ => ?_, ?_⟩
  · rw [rleWords, rleBits_eq hb, vwWords_length hb]
    simp only [escapes_eq]
  · have hlt : ∀ r ∈ runs (spiralPerm p m), r < 2 ^ 7 := fun r hr => by
      have := List.le_sum_of_mem hr
      omega
    rw [rleLen_eq p m (by decide), vwLen, vwWords_length_of_lt (by decide) hlt]

/-! The minimal length -/

/-- Each bit makes at most one code word, and the end one more. -/
theorem rleFrom_length_le (b : Nat) (xs : List Bool) (c : Bool) (n : Nat) : (rleFrom b xs c n).length ≤ xs.length + 1 := by
  induction xs generalizing c n with
  | nil => exact le_rfl
  | cons x xs ih =>
    rw [List.length_cons]
    by_cases hx : x = c
    · subst hx
      by_cases hfull : n + 1 = 2 ^ b
      · rw [rleFrom_cons_escape hfull, List.length_cons]
        exact Nat.add_le_add_right (ih x 1) 1
      · rw [rleFrom_cons_same hfull]
        exact (ih x (n + 1)).trans (Nat.le_add_right _ 1)
    · rw [rleFrom_cons_flip hx, List.length_cons]
      exact Nat.add_le_add_right (ih x 1) 1

theorem rleBits_length_le (b : Nat) (s : List Bool) : (rleBits b s).length ≤ s.length := by
  cases s with
  | nil => exact le_rfl
  | cons c xs => exact rleFrom_length_le b xs c 1

theorem rleLen_le (p : Params) (m : Word) (b : Nat) : rleLen p m b ≤ b * 64 := by
  rw [rleLen, rleWords, ← spiralPerm_length p m]
  exact Nat.mul_le_mul_left b (rleBits_length_le b _)

/-- Settles O49: the length at word size 2 is no less than the minimal one. -/
theorem minimalLengthsAreAtMost128 : Obligations.MinimalLengthsAreAtMost128 := by
  intro p m
  obtain ⟨-, -, -, hmin⟩ := selectionIsLargestOfMinimalLength.2 p m
  exact (hmin 2 le_rfl (by decide)).1.trans (rleLen_le p m 2)

end Sys2Proof.Machine
end

section
/-! The SPIRAL command (44_spiral_rle.md R195 to R198). -/

namespace Sys2Proof.Machine

open Sys2Proof Sys2Proof.Config

/-! The bounds check -/

theorem m3Select_le_seven (p : Params) (m : Word) : (m3Select p m).1 ≤ 7 := by
  obtain ⟨-, hhi, -⟩ := selectionIsLargestOfMinimalLength.2 p m
  exact hhi

/-- A mask violates the check when there is one and its word size is below 4, since it is never above 7. -/
theorem m3Violates_iff (p : Params) (m : Word) :
    (p.m3BoundsCheck && outOfRange (m3Select p m).1) = true ↔ p.m3BoundsCheck = true ∧ (m3Select p m).1 < 4 := by
  have := m3Select_le_seven p m
  rw [Bool.and_eq_true, outOfRange_iff]
  exact and_congr_right fun _ => by omega

theorem m3Violation_cons_violating {p : Params} {m : Word} (hc : p.m3BoundsCheck = true) (hm : (m3Select p m).1 < 4) (i : Nat)
    (ms : List Word) : m3Violation p i (m :: ms) = some (i, (m3Select p m).1) := if_pos ((m3Violates_iff p m).2 ⟨hc, hm⟩)

theorem m3Violation_cons_passing {p : Params} {m : Word} (h : p.m3BoundsCheck = false ∨ 4 ≤ (m3Select p m).1) (i : Nat)
    (ms : List Word) : m3Violation p i (m :: ms) = m3Violation p (i + 1) ms := by
  refine if_neg fun hv => ?_
  obtain ⟨hc, hm⟩ := (m3Violates_iff p m).1 hv
  obtain h | h := h
  · rw [h] at hc
    cases hc
  · omega

theorem m3Violation_eq_none {p : Params} {ms : List Word}
    (h : ∀ m ∈ ms, p.m3BoundsCheck = false ∨ 4 ≤ (m3Select p m).1) (i : Nat) : m3Violation p i ms = none := by
  induction ms generalizing i with
  | nil => rfl
  | cons m ms ih =>
    obtain ⟨hm, hms⟩ := List.forall_mem_cons.1 h
    rw [m3Violation_cons_passing hm, ih hms]

/-- The search reports the first violating mask, its index counted from `k`. -/
theorem m3Violation_eq_some {p : Params} (hc : p.m3BoundsCheck = true) {ms : List Word} {i : Nat} {m : Word}
    (hi : ms[i]? = some m) (hm : (m3Select p m).1 < 4)
    (hbefore : ∀ j m', j < i → ms[j]? = some m' → 4 ≤ (m3Select p m').1) (k : Nat) :
    m3Violation p k ms = some (k + i, (m3Select p m).1) := by
  induction ms generalizing i k with
  | nil => cases hi
  | cons x ms ih =>
    cases i with
    | zero =>
      cases hi
      exact m3Violation_cons_violating hc hm k ms
    | succ i =>
      have hx : 4 ≤ (m3Select p x).1 := hbefore 0 x (Nat.succ_pos i) rfl
      rw [m3Violation_cons_passing (.inr hx), ih hi fun j m' hj => hbefore (j + 1) m' (Nat.succ_lt_succ hj), Nat.add_right_comm,
        Nat.add_assoc]

/-! The outcomes of the command, each with its condition -/

section

variable {s : State} {src : Src} (h : s.inputReady)
include h

/-- SPIRAL with no violating mask (44_spiral_rle.md R197). -/
theorem exec_spiral_passing (hv : m3Violation s.params 0 (selectMasks src s.frameList) = none) :
    exec (.spiral src) s = .next (s.spiralOutput (selectMasks src s.frameList)).complete := by
  rw [exec_spiral_ready src h, State.spiralMasks, hv]

/-- SPIRAL with a violating mask (44_spiral_rle.md R198). -/
theorem exec_spiral_violation {i b : Nat} (hv : m3Violation s.params 0 (selectMasks src s.frameList) = some (i, b)) :
    exec (.spiral src) s = .next (s.spiralBRange.fail .m3BRange (BitVec.ofNat 32 i) (BitVec.ofNat 4 b)) := by
  rw [exec_spiral_ready src h, State.spiralMasks, hv]

end

/-! The count and the entries -/

/-- M3CNT has room for the number of masks. -/
theorem State.selectMasks_length_lt (s : State) (src : Src) : (selectMasks src s.frameList).length < 2 ^ 32 :=
  ((selectMasks_length_le src s.frameList).trans_eq s.frameList_length).trans_lt s.nframes.isLt

theorem State.spiralOutput_m3cnt_toNat (s : State) {ms : List Word} (h : ms.length < 2 ^ 32) :
    (s.spiralOutput ms).m3cnt.toNat = ms.length := by
  rw [State.spiralOutput_m3cnt, BitVec.toNat_ofNat, Nat.mod_eq_of_lt h]

/-- Both fields of an M3RES entry hold their numbers whole. -/
theorem m3Word_m3Select_toNat (p : Params) (m : Word) :
    (m3Word (m3Select p m).1 (m3Select p m).2).toNat = (m3Select p m).1 + 2 ^ 32 * (m3Select p m).2 := by
  have hb := m3Select_le_seven p m
  have hlen := minimalLengthsAreAtMost128 p m
  rw [m3Word_toNat, Nat.mod_eq_of_lt (by omega), Nat.mod_eq_of_lt (by omega)]

theorem m3Words_length (p : Params) (ms : List Word) : (m3Words p ms).length = ms.length := List.length_map _

/-- The entries stored from 0 up, one for each mask. -/
theorem read_writeFrom_m3Words (mem : Memory) (p : Params) {ms : List Word} {i : Nat} {m : Word} (hi : ms[i]? = some m) :
    (mem.writeFrom 0 (m3Words p ms)).read i = some (m3Word (m3Select p m).1 (m3Select p m).2) := by
  obtain ⟨hlt, -⟩ := List.getElem?_eq_some_iff.1 hi
  rw [Memory.read_writeFrom, if_pos (by rw [m3Words_length]; omega), Nat.sub_zero, m3Words, List.getElem?_map, hi,
    Option.map_some]

/-- Words beyond the entries stay. -/
theorem read_writeFrom_m3Words_of_le (mem : Memory) (p : Params) {ms : List Word} {i : Nat} (hi : ms.length ≤ i) :
    (mem.writeFrom 0 (m3Words p ms)).read i = mem.read i := by
  rw [Memory.read_writeFrom, if_neg (by rw [m3Words_length]; omega)]

/-- Settles O29: the entries are stored from M3RES[0] up. -/
theorem spiralCompletes : Obligations.SpiralCompletes := by
  intro src s _ h ms hpass
  have hexec := exec_spiral_passing h (m3Violation_eq_none (fun m hm => hpass.imp_right fun hr => (hr m hm).1) 0)
  have hcnt := s.spiralOutput_m3cnt_toNat (s.selectMasks_length_lt src)
  refine ⟨_, hexec, ⟨rfl, rfl, rfl, rfl, rfl, rfl⟩, hcnt, ?_, ?_, rfl, fun i m hi => ?_, fun i hi => ?_, rfl, rfl, rfl⟩
  · rintro rfl
    exact BitVec.eq_of_toNat_eq (hcnt.trans s.frameList_length)
  · rintro rfl
    exact hcnt.trans s.diffList_length
  · exact ⟨_, read_writeFrom_m3Words s.m3res s.params hi, m3Word_m3Select_toNat s.params m⟩
  · exact read_writeFrom_m3Words_of_le s.m3res s.params hi

/-- Settles O30: the search stops at the first violating mask, and finds none without the check. -/
theorem spiralBoundsCheck : Obligations.SpiralBoundsCheck := by
  intro src s h ms
  refine ⟨fun i m hc hi hm hbefore => ?_, fun hc => ?_⟩
  · have hv := m3Violation_eq_some hc hi hm hbefore 0
    rw [Nat.zero_add] at hv
    exact ⟨_, exec_spiral_violation h hv, ⟨rfl, rfl, rfl, rfl, rfl, rfl⟩, rfl, rfl, rfl, rfl, rfl⟩
  · exact ⟨_, exec_spiral_passing h (m3Violation_eq_none (fun _ _ => .inl hc) 0), rfl, rfl⟩

end Sys2Proof.Machine
end

section
/-! Command control (45_command_control.md): what a due command does, how a command starts, NOP and CLEAR. -/

namespace Sys2Proof.Machine

open Sys2Proof Sys2Proof.Config Sys2Proof.Claims

/-! Running a command word -/

theorem runCommand_of_decode {w : Word} {i : Instr} (h : decode w = .ok i) (s : State) : runCommand w s = exec i s := by
  rw [runCommand, h]

theorem runCommand_of_illegal {w : Word} (h : IllegalWord w) (s : State) : runCommand w s = .next (illegalCommand s) := by
  obtain ⟨e, he⟩ := (illegalWordsAreRefused w).2 h
  rw [runCommand, he]

/-- The word that the host's interface places is run by the next step. -/
theorem step_withFetchWord (s : State) (nbits w : Nat) :
    step (s.withFetchWord nbits w) = runCommand (BitVec.ofNat 64 (w % 2 ^ nbits)) (s.withFetchWord nbits w) :=
  step_running rfl (.inl rfl)

theorem decode_of_decodeTableWord {w : Nat} {i : Instr} (h : decodeTableWord 64 w = some i) :
    decode (BitVec.ofNat 64 (w % 2 ^ 64)) = .ok i := by
  rw [decodeTableWord, if_neg (Nat.lt_irrefl 64)] at h
  cases hd : decode (BitVec.ofNat 64 (w % 2 ^ 64)) with
  | error e =>
    rw [hd] at h
    cases h
  | ok j =>
    rw [hd] at h
    cases h
    rfl

/-- Settles O4: a due command is run whole, and the word that the interface places is due at once. -/
theorem stepRunsTheDecodedCommand : Obligations.StepRunsTheDecodedCommand := by
  refine ⟨fun s w n i hseq hdue hi => ?_, fun s w i hi => ?_⟩
  · rw [step_running hseq hdue, runCommand_of_decode hi]
  · rw [step_withFetchWord, runCommand_of_decode (decode_of_decodeTableWord hi)]

/-- Settles O5: the decoder refuses the word, and the failure of R212 writes STATUS, ERRINFO and the sequencer. -/
theorem illegalCommandFailsAndWritesNothingElse : Obligations.IllegalCommandFailsAndWritesNothingElse := by
  intro s w n hseq hdue hw
  refine ⟨illegalCommand s, ?_, ⟨rfl, rfl, rfl, rfl, rfl, rfl⟩, rfl, rfl, rfl, rfl⟩
  rw [step_running hseq hdue, runCommand_of_illegal hw]

/-! The start of a command -/

theorem hostMove_write {s : State} (hr : s.rst = false) (a : Addr) (d : Word) :
    hostMove (.write a d) s = .next (hostWrite a d s) := by
  rw [hostMove, State.whenReleased, hr]
  rfl

/-- Settles O6: on an idle block the row CMD takes the write, and what it does is a start. -/
theorem cmdWriteStartsTheCommand : Obligations.CmdWriteStartsTheCommand := by
  intro s w ms hidle hr hm
  have hb : (s.withMoves ms).busy = false := (State.not_busy_iff _).2 hidle
  refine ⟨(((s.withMoves ms).start w (freeLatency s.draws)).answer (.write .okay)).draw, freeLatency s.draws, ?_, rfl, rfl, rfl,
    rfl, rfl, rfl, rfl⟩
  rw [step_host_idle hidle hm, hostMove_write (s := s.withMoves ms) hr, hostWrite_cmd w hb]
  rfl

/-! NOP and CLEAR -/

/-- Settles O21: NOP is the completion alone. -/
theorem nopCompletes : Obligations.NopCompletes := by
  obtain ⟨⟨hword, -⟩, -⟩ := commandWordsDecodeAsListed
  exact ⟨hword, fun s =>
    ⟨s.complete, exec_nop s, ⟨rfl, rfl, rfl, rfl, rfl, rfl⟩, ⟨rfl, rfl, rfl, rfl⟩, s.complete_irq⟩⟩

/-- After CLEAR every pixel's results are 0. -/
theorem State.clearResults_pixels (s : State) (p : Pixel) :
    s.clearResults.pixres[p] = PixRes.zero ∧ ∀ b : Fin 16, s.clearResults.pixlen[p][b] = 0 := by
  simp [State.clearResults]

/-- Settles O22: CLEAR is the zeroing of the results, and the completion. -/
theorem clearCompletes : Obligations.ClearCompletes := by
  obtain ⟨⟨-, hword, -⟩, -⟩ := commandWordsDecodeAsListed
  exact ⟨hword, fun s => ⟨s.clearResults.complete, exec_clear s, ⟨rfl, rfl, rfl, rfl, rfl, rfl⟩, s.clearResults_pixels,
    rfl, rfl, rfl, rfl, rfl, fun _ => rfl, fun _ => rfl⟩⟩

end Sys2Proof.Machine
end

section
/-! How a running command ends: by its completion or by reset, after a bounded number of steps. -/

namespace Sys2Proof.Machine

open Sys2Proof Sys2Proof.Config Sys2Proof.Claims

theorem State.assertReset_statusWord (s : State) : s.assertReset.statusWord = 0 :=
  BitVec.eq_of_toNat_eq s.assertReset.statusWord_toNat

/-- While a command runs, a write of the host leaves the sequencer as it is: CMD takes none. -/
theorem hostWrite_seq {s : State} (hb : s.busy = true) (a : Addr) (d : Word) : (hostWrite a d s).seq = s.seq := by
  rcases hostWrite_cases a d s with ⟨-, e⟩ | ⟨x, u, -, hu, e⟩ <;> rw [e]
  · rfl
  · rcases State.writeTarget_some hu with ⟨-, -, rfl⟩ | ⟨-, hidle, -⟩ | ⟨-, rfl⟩ | ⟨-, rfl⟩ | ⟨-, rfl⟩ | ⟨i, -, -, rfl⟩
    · rfl
    · rw [hb] at hidle
      cases hidle
    · rfl
    · rfl
    · rfl
    · rfl

/-- While a command runs, a move of the host leaves the sequencer as it is, or is reset. -/
theorem hostMove_seq {m : Move} {s t : State} (hb : s.busy = true) (h : hostMove m s = .next t) :
    t.seq = s.seq ∨ (m = .assertRst ∧ t = s.assertReset) := by
  rcases hostMove_cases h with ⟨a, -, -, hread⟩ | ⟨a, d, -, -, rfl⟩ | ⟨-, -, rfl⟩ | ⟨-, rfl⟩ | ⟨rfl, rfl⟩ | ⟨-, rfl⟩
  · obtain ⟨w, r, rfl | ⟨-, rfl⟩⟩ := hostRead_next hread <;> exact .inl rfl
  · exact .inl (hostWrite_seq hb a d)
  · split <;> exact .inl rfl
  · split <;> exact .inl rfl
  · exact .inr ⟨rfl, rfl⟩
  · exact .inl rfl

/-- The inversion of a step while a command runs: the command ends, it uses up one of the host moves it lets pass, or the host
resets the block. -/
theorem step_running_cases {s t : State} {w : Word} {n : Nat} (hseq : s.seq = .running w n) (h : step s = .next t) :
    t.EndsFrom s ∨ (∃ k, n = k + 1 ∧ t.seq = .running w k) ∨
      ∃ ms u, s.moves = .assertRst :: ms ∧ t = State.assertReset u := by
  by_cases hdue : n = 0 ∨ s.moves = []
  · rw [step_running hseq hdue] at h
    exact .inl (runCommand_next h)
  · obtain ⟨hn, hm⟩ := not_or.1 hdue
    obtain ⟨k, rfl⟩ := Nat.exists_eq_succ_of_ne_zero hn
    obtain ⟨m, ms, hms⟩ := List.exists_cons_of_ne_nil hm
    rw [step_host_running hseq hms] at h
    rcases hostMove_seq rfl h with hkept | ⟨rfl, ht⟩
    · exact .inr (.inl ⟨k, rfl, hkept⟩)
    · exact .inr (.inr ⟨ms, _, hms, ht⟩)

/-- Settles O56: a step during a command that uses up a host move leaves it running, and the other two are the ways to end it. -/
theorem onlyCompletionOrResetEndsACommand : Obligations.OnlyCompletionOrResetEndsACommand := by
  intro s t hb h ht
  obtain ⟨w, n, hseq⟩ := s.busy_iff.1 hb
  rcases step_running_cases hseq h with hend | ⟨k, -, hrun⟩ | ⟨ms, u, hms, rfl⟩
  · obtain ⟨hside, -, hdone, -⟩ := hend.frame
    exact .inl ⟨hdone, hside⟩
  · rw [t.not_busy_iff.1 ht] at hrun
    cases hrun
  · exact .inr ⟨ms, hms, u.assertReset_statusWord, u.assertReset_irq, rfl⟩

/-- After a step during a command the block is idle, or the command lets one host move less pass. -/
theorem step_running_progress {s t : State} {w : Word} {n : Nat} (hseq : s.seq = .running w n) (h : step s = .next t) :
    t.busy = false ∨ ∃ k, n = k + 1 ∧ t.seq = .running w k := by
  rcases step_running_cases hseq h with hend | hrun | ⟨ms, u, -, rfl⟩
  · obtain ⟨-, -, -, hidle⟩ := hend.frame
    exact .inl hidle
  · exact .inr hrun
  · exact .inl u.assertReset_busy

/-- Settles O57, by induction on the number of host moves left: a step that does not end the command uses one of them up. -/
theorem startedCommandsEnd : Obligations.StartedCommandsEnd := by
  intro n
  induction n using Nat.strong_induction_on with
  | _ n ih =>
    rintro s t w hseq ⟨u, hstep, hrest⟩
    rcases step_running_progress hseq hstep with hidle | ⟨k, rfl, hrun⟩
    · exact ⟨1, u, Nat.le_add_left 1 n, ⟨u, hstep, rfl⟩, hidle⟩
    · obtain ⟨j, v, hj, hsteps, hidle⟩ := ih k k.lt_succ_self u t w hrun hrest
      exact ⟨j + 1, v, Nat.succ_le_succ hj, ⟨u, hstep, hsteps⟩, hidle⟩

end Sys2Proof.Machine
end

section
/-! The commands that read the frames: what they leave when NFRAMES does not fit (45_command_control.md R213,
70_reset_and_hazards.md R268). -/

namespace Sys2Proof.Machine

open Sys2Proof Sys2Proof.Config Sys2Proof.Claims

/-- What a command writes besides the completion when NFRAMES does not fit (notes/assumptions/20.md). -/
def State.nframesRangeWrites (s : State) : Instr → State
  | .serialize => s.serializeNframesRange
  | .spiral _ => s.spiralNframesRange
  | .nop | .clear | .select => s

/-- NFRAMES > N_MAX fails every command that reads the frames. -/
theorem exec_nframesRange {i : Instr} {s : State} (hi : ReadsFrames i) (h : ¬s.framesFit) :
    exec i s = .next ((s.nframesRangeWrites i).fail .nframesRange s.nframes 0) := by
  cases i with
  | nop | clear => exact hi.elim
  | select | serialize | spiral => exact State.withFrames_tooMany _ _ h

/-- The writes of that failure reach no register or memory but the count and words of the command. -/
theorem State.nframesRangeWrites_frame (s : State) (i : Instr) :
    (s.nframesRangeWrites i).hostSide = s.hostSide ∧ (s.nframesRangeWrites i).pixelSide = s.pixelSide ∧
      (s.nframesRangeWrites i).totbits = s.totbits ∧ (s.nframesRangeWrites i).m3total = s.m3total ∧
      (s.nframesRangeWrites i).status = s.status := by
  cases i <;> exact ⟨rfl, rfl, rfl, rfl, rfl⟩

/-- Under R213 the failure writes nothing besides the completion, and that of SELECT never does. -/
theorem State.nframesRangeWrites_eq {s : State} {i : Instr} (h : s.params.nframesRangeZeroes = false ∨ i = .select) :
    s.nframesRangeWrites i = s := by
  rcases h with h | rfl
  · cases i with
    | nop | clear | select => rfl
    | serialize => exact State.serializeNframesRange_eq h
    | spiral => exact State.spiralNframesRange_eq h
  · rfl

/-- With OUTCNT 0 and no command running every word of OUT is free. -/
theorem reads_out_free {t : State} (hb : t.busy = false) (hc : t.outcnt = 0) {j : Fin 1048576} (hj : j.val < t.params.outMax) :
    Reads t (.out j) (freeWord t.draws (Target.out j).addr) := by
  obtain ⟨-, -, hlayout⟩ := resultRegisterLayouts
  obtain ⟨hout, -⟩ := hlayout t hb
  obtain ⟨-, hbeyond⟩ := hout j hj
  exact hbeyond (by simp [hc])

/-- With M3CNT 0 and no command running every word of M3RES is free. -/
theorem reads_m3res_free {t : State} (hb : t.busy = false) (hc : t.m3cnt = 0) {j : Fin 65536} (hj : j.val < t.params.nMax) :
    Reads t (.m3res j) (freeWord t.draws (Target.m3res j).addr) := by
  obtain ⟨-, -, hlayout⟩ := resultRegisterLayouts
  obtain ⟨-, hm3, -⟩ := hlayout t hb
  obtain ⟨-, hbeyond⟩ := hm3 j hj
  exact hbeyond (by simp [hc])

/-- Settles O24: the failure adds to the command's writes STATUS, ERRINFO and the sequencer, and under R268 the count is 0. -/
theorem nframesRangeFails : Obligations.NframesRangeFails := by
  intro i s hi hn
  obtain ⟨hside, hpix, htot, hm3, hstatus⟩ := s.nframesRangeWrites_frame i
  refine ⟨_, exec_nframesRange hi (Nat.not_le.2 hn), ⟨rfl, rfl, rfl, congrArg (·.lastop) hstatus, rfl, rfl⟩, hside, hpix, htot,
    hm3, fun hz => ?_, fun hz => ⟨?_, ?_⟩⟩
  · rw [State.nframesRangeWrites_eq hz]
    exact ⟨rfl, rfl, rfl, rfl⟩
  · rintro rfl
    have hc : ((s.nframesRangeWrites .serialize).fail .nframesRange s.nframes 0).outcnt = 0 := if_pos hz
    exact ⟨hc, rfl, fun j => reads_out_free rfl hc⟩
  · rintro ⟨src, rfl⟩
    have hc : ((s.nframesRangeWrites (.spiral src)).fail .nframesRange s.nframes 0).m3cnt = 0 := if_pos hz
    exact ⟨hc, rfl, fun j => reads_m3res_free rfl hc⟩

end Sys2Proof.Machine
end

section
/-! What a command leaves is a function of its input (45_command_control.md R216). Two runs are compared: `s'` and `s` stand for
the states before, `t'` and `t` for the states after. -/

namespace Sys2Proof.Machine

open Sys2Proof Sys2Proof.Config Sys2Proof.Claims

/-! The input -/

/-- The states agree on what a command reads: the parameters, NFRAMES, STATUS and the frames below NFRAMES. -/
structure State.SameInput (s' s : State) : Prop where
  params : s'.params = s.params
  nframes : s'.nframes = s.nframes
  status : s'.status = s.status
  frame : ∀ j, j < s.nframes.toNat → s'.frame.read j = s.frame.read j

section

variable {s' s : State} (h : s'.SameInput s)
include h

theorem State.SameInput.frameList : s'.frameList = s.frameList := by
  rw [State.frameList, State.frameList, h.nframes]
  exact List.map_congr_left fun j hj => by rw [h.frame j (List.mem_range.1 hj)]

theorem State.SameInput.framesFit_iff : s'.framesFit ↔ s.framesFit := by
  rw [State.framesFit, State.framesFit, h.params, h.nframes]

theorem State.SameInput.inputReady (hs : s.inputReady) : s'.inputReady := by
  obtain ⟨hfit, hwritten⟩ := hs
  refine ⟨h.framesFit_iff.2 hfit, fun j hj => ?_⟩
  rw [h.nframes] at hj
  rw [h.frame j hj]
  exact hwritten j hj

end

/-! The results -/

/-- The memories hold the same in their first `count` words. -/
def Memory.AgreeBelow (count : Nat) (m' m : Memory) : Prop := ∀ j, j < count → m'.read j = m.read j

/-- The ends report the same: STATUS and ERRINFO agree. -/
def State.ReportAgrees (t' t : State) : Prop := t'.status = t.status ∧ t'.errinfo = t.errinfo

/-- The results of SERIALIZE agree, up to the count. -/
def State.SerialAgrees (t' t : State) : Prop :=
  t'.totbits = t.totbits ∧ t'.outcnt = t.outcnt ∧ Memory.AgreeBelow t.outcnt.toNat t'.out t.out

/-- The results of SPIRAL agree, up to the count. -/
def State.SpiralAgrees (t' t : State) : Prop :=
  t'.m3cnt = t.m3cnt ∧ t'.m3total = t.m3total ∧ Memory.AgreeBelow t.m3cnt.toNat t'.m3res t.m3res

theorem Memory.agreeBelow_zero (m' m : Memory) : Memory.AgreeBelow 0 m' m := fun _ hj => absurd hj (Nat.not_lt_zero _)

/-- Memories agree on the words stored to both, whatever they held before. -/
theorem Memory.agreeBelow_writeFrom {count : Nat} {ws : List Word} (h : count ≤ ws.length) (m' m : Memory) :
    Memory.AgreeBelow count (m'.writeFrom 0 ws) (m.writeFrom 0 ws) := by
  intro j hj
  have stored : 0 ≤ j ∧ j < 0 + ws.length := by omega
  rw [Memory.read_writeFrom, Memory.read_writeFrom, if_pos stored, if_pos stored]

/-- A count stored in its register is no more than the number of words. -/
theorem toNat_ofNat_le (n : Nat) : (BitVec.ofNat 32 n).toNat ≤ n := (BitVec.toNat_ofNat ..).trans_le (Nat.mod_le ..)

section

variable {u' u : State}

theorem State.reportAgrees_complete (h : u'.status = u.status) : u'.complete.ReportAgrees u.complete :=
  ⟨congrArg Status.completed h, rfl⟩

theorem State.reportAgrees_fail (h : u'.status = u.status) (code : ErrCode) (index : BitVec 32) (b : BitVec 4) :
    (u'.fail code index b).ReportAgrees (u.fail code index b) :=
  ⟨congrArg (Status.failed · code) h, rfl⟩

/-- SERIALIZE of the same diffs ends the same way, in each of its four ends. -/
theorem State.serializeDiffs_agrees (hp : u'.params = u.params) (hs : u'.status = u.status) (ds : List Word) :
    (u'.serializeDiffs ds).ReportAgrees (u.serializeDiffs ds) ∧ (u'.serializeDiffs ds).SerialAgrees (u.serializeDiffs ds) := by
  by_cases hd : ds = []
  · subst hd
    exact ⟨State.reportAgrees_complete hs, rfl, rfl, Memory.agreeBelow_writeFrom (ws := [0]) le_rfl _ _⟩
  · cases hb : boundsViolation ds with
    | some pb =>
      rw [State.serializeDiffs_violation hd hb, State.serializeDiffs_violation hd hb]
      exact ⟨State.reportAgrees_fail hs _ _ _, rfl, rfl, Memory.agreeBelow_zero _ _⟩
    | none =>
      rw [State.serializeDiffs_inRange hd hb, State.serializeDiffs_inRange hd hb, State.serializeAssembled,
        State.serializeAssembled, hp]
      split
      · exact ⟨State.reportAgrees_fail hs _ _ _, rfl, rfl, Memory.agreeBelow_zero _ _⟩
      · refine ⟨State.reportAgrees_complete hs, rfl, rfl, Memory.agreeBelow_writeFrom ?_ _ _⟩
        exact (toNat_ofNat_le _).trans_eq (outWords_length _ _).symm

/-- SPIRAL of the same masks ends the same way, in each of its two ends. -/
theorem State.spiralMasks_agrees (hp : u'.params = u.params) (hs : u'.status = u.status) (ms : List Word) :
    (u'.spiralMasks ms).ReportAgrees (u.spiralMasks ms) ∧ (u'.spiralMasks ms).SpiralAgrees (u.spiralMasks ms) := by
  rw [State.spiralMasks, State.spiralMasks, hp]
  cases m3Violation u.params 0 ms with
  | some ib => exact ⟨State.reportAgrees_fail hs _ _ _, rfl, rfl, Memory.agreeBelow_zero _ _⟩
  | none =>
    refine ⟨State.reportAgrees_complete hs, rfl, ?_, ?_⟩
    · exact congrArg (fun p => BitVec.ofNat 32 (m3Total p ms)) hp
    · show Memory.AgreeBelow _ (u'.m3res.writeFrom 0 (m3Words u'.params ms)) _
      rw [hp]
      exact Memory.agreeBelow_writeFrom ((toNat_ofNat_le _).trans_eq (m3Words_length _ _).symm) _ _

/-- The pixel results stay as they are in every end of SERIALIZE. -/
theorem State.serializeDiffs_pixelSide (u : State) (ds : List Word) : (u.serializeDiffs ds).pixelSide = u.pixelSide := by
  rcases u.serializeDiffs_cases ds with ⟨-, e⟩ | ⟨-, p, b, -, e⟩ | ⟨-, -, -, e⟩ | ⟨-, -, -, e⟩ <;> rw [e] <;> rfl

end

/-! The commands -/

/-- Two runs of a command that reads the frames: they report the same, and their results are related as those of the same frame
sequence are, when NFRAMES fits. -/
theorem State.withFrames_agrees {s' s u' u t : State} {f' f : List Word → State} {R : State → State → Prop}
    (h : s'.SameInput s) (hu : u'.status = u.status) (ht : (s.withFrames u fun fs => .next (f fs)) = .next t)
    (hf : ∀ fs, (f' fs).ReportAgrees (f fs) ∧ R (f' fs) (f fs)) :
    ∃ t', (s'.withFrames u' fun fs => .next (f' fs)) = .next t' ∧ t'.ReportAgrees t ∧ (s.framesFit → R t' t) := by
  rcases State.withFrames_next ht with ⟨hfit, rfl⟩ | ⟨hready, hk⟩
  · refine ⟨_, State.withFrames_tooMany u' _ (mt h.framesFit_iff.1 hfit), ?_, fun hs => absurd hs hfit⟩
    rw [h.nframes]
    exact State.reportAgrees_fail hu _ _ _
  · cases hk
    obtain ⟨hreport, hR⟩ := hf s.frameList
    refine ⟨_, State.withFrames_ready u' _ (h.inputReady hready), ?_, fun _ => ?_⟩
    · rwa [h.frameList]
    · rwa [h.frameList]

section

variable {s' s t : State} (h : s'.SameInput s)
include h

theorem exec_select_agrees (ht : exec .select s = .next t) :
    ∃ t', exec .select s' = .next t' ∧ t'.ReportAgrees t ∧ (s.framesFit → t'.pixelSide = t.pixelSide) :=
  State.withFrames_agrees (R := fun t' t => t'.pixelSide = t.pixelSide) h h.status
    ((exec_select s).symm.trans ht) fun _ => ⟨State.reportAgrees_complete h.status, rfl⟩

theorem exec_serialize_agrees (ht : exec .serialize s = .next t) :
    ∃ t', exec .serialize s' = .next t' ∧ t'.ReportAgrees t ∧
      (s.framesFit → t'.pixelSide = t.pixelSide ∧ t'.SerialAgrees t) :=
  State.withFrames_agrees (u' := s'.serializeNframesRange) (u := s.serializeNframesRange)
    (R := fun t' t => t'.pixelSide = t.pixelSide ∧ t'.SerialAgrees t) h h.status ((exec_serialize s).symm.trans ht) fun fs => by
      obtain ⟨hreport, hserial⟩ := State.serializeDiffs_agrees (u' := s'.writePixels (diffs fs)) (u := s.writePixels (diffs fs))
        h.params h.status (diffs fs)
      refine ⟨hreport, ?_, hserial⟩
      rw [State.serializeDiffs_pixelSide, State.serializeDiffs_pixelSide]
      rfl

theorem exec_spiral_agrees {src : Src} (ht : exec (.spiral src) s = .next t) :
    ∃ t', exec (.spiral src) s' = .next t' ∧ t'.ReportAgrees t ∧ (s.framesFit → t'.SpiralAgrees t) :=
  State.withFrames_agrees (u' := s'.spiralNframesRange) (u := s.spiralNframesRange) (R := State.SpiralAgrees) h h.status
    ((exec_spiral src s).symm.trans ht) fun fs => State.spiralMasks_agrees h.params h.status (selectMasks src fs)

end

/-- Settles O32: NOP and CLEAR read no input but STATUS, and the others end as their frame sequence says. -/
theorem resultsAreAFunctionOfTheInput : Obligations.ResultsAreAFunctionOfTheInput := by
  intro i s s' t hp hn hs hframe ht
  have hin : s'.SameInput s := ⟨hp, hn, hs, hframe⟩
  cases i with
  | nop =>
    cases ht
    obtain ⟨hstatus, hinfo⟩ := State.reportAgrees_complete hs
    exact ⟨_, exec_nop s', hstatus, hinfo, fun _ => ⟨nofun, nofun, nofun⟩⟩
  | clear =>
    cases ht
    obtain ⟨hstatus, hinfo⟩ := State.reportAgrees_complete (u' := s'.clearResults) (u := s.clearResults) hs
    exact ⟨_, exec_clear s', hstatus, hinfo, fun _ => ⟨fun _ => rfl, fun _ => ⟨rfl, rfl, Memory.agreeBelow_zero _ _⟩,
      fun _ => ⟨rfl, rfl, Memory.agreeBelow_zero _ _⟩⟩⟩
  | select =>
    obtain ⟨t', ht', ⟨hstatus, hinfo⟩, hpix⟩ := exec_select_agrees hin ht
    exact ⟨t', ht', hstatus, hinfo, fun hfit => ⟨fun _ => hpix hfit, nofun, nofun⟩⟩
  | serialize =>
    obtain ⟨t', ht', ⟨hstatus, hinfo⟩, hres⟩ := exec_serialize_agrees hin ht
    refine ⟨t', ht', hstatus, hinfo, fun hfit => ?_⟩
    obtain ⟨hpix, hserial⟩ := hres hfit
    exact ⟨fun _ => hpix, fun _ => hserial, nofun⟩
  | spiral src =>
    obtain ⟨t', ht', ⟨hstatus, hinfo⟩, hspiral⟩ := exec_spiral_agrees hin ht
    exact ⟨t', ht', hstatus, hinfo, fun hfit => ⟨nofun, nofun, fun _ => hspiral hfit⟩⟩

end Sys2Proof.Machine
end

section
/-! Reset (70_reset_and_hazards.md R260, R261, R272): what it leaves, what the block reads right after it, and what the host can do
while it is asserted. -/

namespace Sys2Proof.Machine

open Sys2Proof Sys2Proof.Config Sys2Proof.Claims

/-! The reset state -/

/-- Settles O52: no memory word is held, no count is positive, no pixel is valid and no command runs. -/
theorem invariantHoldsAtReset : Obligations.InvariantHoldsAtReset where
  params_ok := by decide
  frame_wf := .nil
  frame_below := nofun
  out_wf := .nil
  out_below := nofun
  m3_wf := .nil
  m3_below := nofun
  out_valid := fun _ hi => absurd hi (Nat.not_lt_zero _)
  out_guard := fun h => absurd h (Nat.lt_irrefl 0)
  m3_valid := fun _ hi => absurd hi (Nat.not_lt_zero _)
  pixlen_low := by simp [State.reset]
  pixres_valid := by simp [State.reset, PixRes.zero]
  errcode_none := by simp [State.reset]
  lastop_cmd := rfl
  running := nofun

/-- Settles O51: with NFRAMES = 0 the read-outs are those of the empty diff sequence, and the constants are of the default
parameters. -/
theorem readoutsAfterReset : Obligations.ReadoutsAfterReset := by
  obtain ⟨-, hshort, -⟩ := timelineReadouts State.reset invariantHoldsAtReset.params_ok
  obtain ⟨hlen, hdata, -⟩ := hshort Nat.two_pos
  obtain ⟨hid, hparams, -⟩ := constantRegisters State.reset invariantHoldsAtReset.params_ok
  refine ⟨hdata rfl, hlen, reads_of_word rfl rfl, hid, hparams, reads_of_word rfl rfl, rfl, fun i hi => ?_⟩
  obtain ⟨hbeyond, -⟩ := diffReadout State.reset i hi
  exact hbeyond fun h => absurd h.2 (Nat.not_lt_zero _)

/-! The assertion of reset -/

/-- With the host about to assert reset, the step is the reset, whether or not a command runs. -/
theorem step_assertRst {s : State} {ms : List Move} (hseq : s.seq = .idle ∨ ∃ w n, s.seq = .running w (n + 1))
    (hm : s.moves = .assertRst :: ms) : step s = .next (s.withMoves ms).assertReset := by
  rcases hseq with hidle | ⟨w, n, hrun⟩
  · exact step_host_idle hidle hm
  · exact step_host_running hrun hm

/-- After reset every pixel's results are 0. -/
theorem State.assertReset_pixels (s : State) (p : Pixel) :
    s.assertReset.pixres[p] = PixRes.zero ∧ ∀ b : Fin 16, s.assertReset.pixlen[p][b] = 0 := by
  simp [State.reset]

/-- Settles O50: the step is the reset, which keeps the parameters and the host's moves alone. -/
theorem resetLeavesTheResetState : Obligations.ResetLeavesTheResetState := by
  intro s ms hseq hm
  exact ⟨_, step_assertRst hseq hm, rfl, rfl, rfl, State.assertReset_statusWord _, rfl, rfl, rfl, rfl, rfl, rfl, rfl,
    State.assertReset_pixels _, fun _ => ⟨rfl, rfl, rfl⟩, State.assertReset_irq _, rfl, rfl, rfl⟩

/-! The host under reset -/

/-- A transaction is refused while reset is asserted. -/
theorem State.whenReleased_of_rst {s : State} (hr : s.rst = true) (r : Result) :
    s.whenReleased r = .refused .transactionUnderReset := if_pos hr

/-- Settles O60: on an idle block the step is the host's move, and read, write and wait ask for reset to be released. -/
theorem hostUnderReset : Obligations.HostUnderReset := by
  intro s m ms hr hidle hm
  rw [step_host_idle hidle hm]
  have hr' : (s.withMoves ms).rst = true := hr
  refine ⟨?_, ?_⟩
  · rintro (⟨a, rfl⟩ | ⟨a, d, rfl⟩ | rfl)
    all_goals exact State.whenReleased_of_rst hr' _
  · rintro rfl
    rfl

/-! The parameters -/

/-- A write changes no parameter, accepted or not. -/
theorem hostWrite_params (a : Addr) (d : Word) (s : State) : (hostWrite a d s).params = s.params := by
  rcases hostWrite_cases a d s with ⟨-, e⟩ | ⟨x, u, -, hu, e⟩ <;> rw [e]
  · rfl
  · rcases State.writeTarget_some hu with ⟨-, -, rfl⟩ | ⟨-, -, rfl⟩ | ⟨-, rfl⟩ | ⟨-, rfl⟩ | ⟨-, rfl⟩ | ⟨i, -, -, rfl⟩ <;> rfl

/-- No move of the host changes a parameter, reset among them. -/
theorem hostMove_params {m : Move} {s t : State} (h : hostMove m s = .next t) : t.params = s.params := by
  rcases hostMove_cases h with ⟨a, -, -, hread⟩ | ⟨a, d, -, -, rfl⟩ | ⟨-, -, rfl⟩ | ⟨-, rfl⟩ | ⟨-, rfl⟩ | ⟨-, rfl⟩
  · obtain ⟨w, r, rfl | ⟨-, rfl⟩⟩ := hostRead_next hread <;> rfl
  · exact hostWrite_params a d s
  · split <;> rfl
  · split <;> rfl
  · rfl
  · rfl

/-- Settles O54: a command writes nothing of the host's side, where the parameters stand, and a host move keeps them. -/
theorem parametersNeverChange : Obligations.ParametersNeverChange := by
  intro s t h
  rcases step_cases s with ⟨w, n, -, -, e⟩ | ⟨-, -, e⟩ | ⟨m, ms, w, n, -, -, e⟩ | ⟨m, ms, -, -, e⟩ <;> rw [e] at h
  · obtain ⟨hside, -⟩ := (runCommand_next h).frame
    exact congrArg Prod.fst hside
  · cases h
    rfl
  · exact (hostMove_params h).trans rfl
  · exact (hostMove_params h).trans rfl

end Sys2Proof.Machine
end

section
/-! Unwritten frames (10_state.md R50, 70_reset_and_hazards.md R269): which commands and host reads stop at one, and when. -/

namespace Sys2Proof.Machine

open Sys2Proof Sys2Proof.Config Sys2Proof.Claims

theorem State.not_framesWritten_iff {s : State} :
    ¬s.framesWritten ↔ ∃ j, j < s.nframes.toNat ∧ s.frame.read j = none := by
  simp [State.framesWritten]

/-! The commands -/

/-- A command that reads the frames does so first, and stops nowhere after that. -/
theorem exec_eq_withFrames {i : Instr} (hi : ReadsFrames i) (s : State) :
    ∃ (u : State) (f : List Word → State), exec i s = s.withFrames u fun fs => .next (f fs) := by
  cases i with
  | nop | clear => exact hi.elim
  | select => exact ⟨_, _, exec_select s⟩
  | serialize => exact ⟨_, _, exec_serialize s⟩
  | spiral src => exact ⟨_, _, exec_spiral src s⟩

/-- The fault of reading the frames names one of them that is unwritten. -/
theorem State.withFrames_fault {s u : State} {f : List Word → State} {j : Nat}
    (h : (s.withFrames u fun fs => .next (f fs)) = .fault (.uninitFrame j)) :
    j < s.nframes.toNat ∧ s.frame.read j = none := by
  by_cases hfit : s.framesFit
  · by_cases hw : s.framesWritten
    · rw [State.withFrames_ready u _ ⟨hfit, hw⟩] at h
      cases h
    · obtain ⟨k, e, hk, hnone, -⟩ := State.withFrames_unwritten u (fun fs => .next (f fs)) hfit hw
      rw [e] at h
      cases h
      exact ⟨hk, hnone⟩
  · rw [State.withFrames_tooMany u _ hfit] at h
    cases h

/-- Where NFRAMES fits, a command that reads the frames faults exactly at an unwritten one. -/
theorem exec_fault_iff {i : Instr} {s : State} (hi : ReadsFrames i) (hfit : s.framesFit) :
    ((∃ j, exec i s = .fault (.uninitFrame j)) ↔ ∃ j, j < s.nframes.toNat ∧ s.frame.read j = none) ∧
      ∀ j, exec i s = .fault (.uninitFrame j) → j < s.nframes.toNat ∧ s.frame.read j = none := by
  obtain ⟨u, f, e⟩ := exec_eq_withFrames hi s
  rw [e]
  refine ⟨⟨fun ⟨j, h⟩ => ⟨j, State.withFrames_fault h⟩, fun h => ?_⟩, fun j => State.withFrames_fault⟩
  obtain ⟨j, hj, -⟩ := State.withFrames_unwritten u (fun fs => .next (f fs)) hfit (State.not_framesWritten_iff.2 h)
  exact ⟨j, hj⟩

/-! The rows that read frames -/

/-- A word of OUT or M3RES needs no frame. -/
theorem validRead_ne_unwritten (m : Memory) (count i j : Nat) : validRead m count i ≠ .unwritten j := by
  unfold validRead
  split
  · split <;> simp
  · simp

section

variable {s : State} {i j : Nat}

theorem State.readFrame_eq_unwritten_iff : s.readFrame i = .unwritten j ↔ i = j ∧ s.frame.read i = none := by
  unfold State.readFrame
  cases s.frame.read i <;> simp

theorem State.readDiff_eq_unwritten_iff :
    s.readDiff i = .unwritten j ↔ (s.framesFit ∧ i + 1 < s.nframes.toNat) ∧
      ((i = j ∧ s.frame.read i = none) ∨ (i + 1 = j ∧ (s.frame.read i).isSome = true ∧ s.frame.read (i + 1) = none)) := by
  by_cases h : s.framesFit ∧ i + 1 < s.nframes.toNat
  · rw [State.readDiff, if_pos (by simpa [Bool.eq_false_iff, State.nframesTooMany_iff] using h)]
    cases s.frame.read i with
    | none => simp [h]
    | some f => cases s.frame.read (i + 1) <;> simp [h]
  · simp [State.readDiff_beyond h, h]

/-- A diff cannot be read exactly when NFRAMES takes it in and one of its two frames is unwritten. -/
theorem State.readDiff_stops_iff :
    (∃ j, s.readDiff i = .unwritten j) ↔
      s.framesFit ∧ i + 1 < s.nframes.toNat ∧ (s.frame.read i = none ∨ s.frame.read (i + 1) = none) := by
  simp only [State.readDiff_eq_unwritten_iff]
  cases s.frame.read i <;> simp [and_assoc]

/-- The inversion of a read-out of a timeline that stops: it needs the frames, and the one it names is unwritten. -/
theorem State.readTimeline_eq_unwritten {k : List Nat → Word} (h : s.readTimeline k = .unwritten j) :
    s.framesFit ∧ 2 ≤ s.nframes.toNat ∧ ¬s.framesWritten ∧ s.frame.read j = none := by
  by_cases hfit : s.framesFit
  · by_cases hw : s.framesWritten
    · rw [State.readTimeline_ready ⟨hfit, hw⟩] at h
      cases h
    · rcases Nat.lt_or_ge s.nframes.toNat 2 with hn | hn
      · rw [State.readTimeline_short hfit hn] at h
        cases h
      · obtain ⟨j', e, hnone⟩ := State.readTimeline_unwritten hfit hn hw k
        rw [e] at h
        cases h
        exact ⟨hfit, hn, hw, hnone⟩
  · rw [State.readTimeline_tooMany hfit] at h
    cases h

/-- A read-out of a timeline stops exactly when it needs the frames and one of them is unwritten. -/
theorem State.readTimeline_stops_iff (k : List Nat → Word) :
    (∃ j, s.readTimeline k = .unwritten j) ↔
      s.framesFit ∧ 2 ≤ s.nframes.toNat ∧ ∃ j, j < s.nframes.toNat ∧ s.frame.read j = none := by
  rw [← State.not_framesWritten_iff]
  constructor
  · rintro ⟨j, h⟩
    obtain ⟨hfit, hn, hw, -⟩ := State.readTimeline_eq_unwritten h
    exact ⟨hfit, hn, hw⟩
  · rintro ⟨hfit, hn, hw⟩
    obtain ⟨j, h, -⟩ := State.readTimeline_unwritten hfit hn hw k
    exact ⟨j, h⟩

/-- A result row needs no frame: it is as it would be while no command runs, or drawn. -/
theorem State.resultRead_eq_unwritten {r : ReadOut} (h : s.resultRead r = .unwritten j) : r = .unwritten j := by
  cases hb : s.busy
  · rwa [State.resultRead_idle hb] at h
  · rw [State.resultRead_busy hb] at h
    cases h

/-- The rows that read frames are the only ones that stop, and they name a frame that is unwritten. -/
theorem State.readTarget_eq_unwritten {t : Target} (h : s.readTarget t = .unwritten j) :
    s.frame.read j = none ∧ (t = .tldata ∨ t = .tllen ∨ ∃ i, t = .diff i ∨ t = .frame i) := by
  cases t
  case tldata =>
    obtain ⟨-, -, -, hnone⟩ := State.readTimeline_eq_unwritten (s.readTarget_tldata.symm.trans h)
    exact ⟨hnone, .inl rfl⟩
  case tllen =>
    obtain ⟨-, -, -, hnone⟩ := State.readTimeline_eq_unwritten (s.readTarget_tllen.symm.trans h)
    exact ⟨hnone, .inr (.inl rfl)⟩
  case diff i =>
    refine ⟨?_, .inr (.inr ⟨i, .inl rfl⟩)⟩
    obtain ⟨-, ⟨rfl, hnone⟩ | ⟨rfl, -, hnone⟩⟩ := State.readDiff_eq_unwritten_iff.1 h
    · exact hnone
    · exact hnone
  case frame i =>
    obtain ⟨rfl, hnone⟩ := State.readFrame_eq_unwritten_iff.1 h
    exact ⟨hnone, .inr (.inr ⟨i, .inr rfl⟩)⟩
  case m3res | out => exact absurd (State.resultRead_eq_unwritten h) (validRead_ne_unwritten _ _ _ _)
  case errinfo | totbits | outcnt | m3cnt | m3total | pixres | pixlen => cases State.resultRead_eq_unwritten h
  all_goals cases h

/-- A read at the address of a row faults exactly when the row needs an unwritten frame. -/
theorem hostRead_addr_fault_iff {t : Target} (hp : t.present s.params = true) :
    hostRead t.addr s = .fault (.uninitFrame j) ↔ s.readTarget t = .unwritten j := by
  refine ⟨fun h => ?_, hostRead_unwritten (State.targetAt_addr hp)⟩
  obtain ⟨t', j', ht', hj', hx⟩ := hostRead_fault h
  rw [State.targetAt_addr hp] at ht'
  cases ht'
  cases hx
  exact hj'

end

/-- Settles O20: the commands read the frames first, and of the rows of the map four kinds read a frame. -/
theorem unwrittenFramesFault : Obligations.UnwrittenFramesFault := by
  refine ⟨fun i s hi hfit => exec_fault_iff hi hfit, fun s i hi => ?_, fun s t ht => ?_, fun s i hi => ?_, fun s a x h => ?_⟩
  · simp only [hostRead_addr_fault_iff (t := .diff i) (decide_eq_true hi)]
    exact State.readDiff_stops_iff
  · rcases ht with rfl | rfl
    · simp only [hostRead_addr_fault_iff (t := .tldata) rfl, State.readTarget_tldata]
      exact State.readTimeline_stops_iff _
    · simp only [hostRead_addr_fault_iff (t := .tllen) rfl, State.readTarget_tllen]
      exact State.readTimeline_stops_iff _
  · rw [hostRead_addr_fault_iff (t := .frame i) (decide_eq_true hi)]
    exact State.readFrame_eq_unwritten_iff.trans (and_iff_right rfl)
  · obtain ⟨t, j, ht, hj, rfl⟩ := hostRead_fault h
    obtain ⟨hmap, -⟩ := State.targetAt_some ht
    obtain rfl := targetAt_eq_some_iff.1 hmap
    obtain ⟨hnone, hrow⟩ := State.readTarget_eq_unwritten hj
    exact ⟨⟨j, rfl, hnone⟩, hrow.imp (congrArg _) (.imp (congrArg _) fun ⟨i, hi⟩ => ⟨i, hi.imp (congrArg _) (congrArg _)⟩)⟩

end Sys2Proof.Machine
end
